-- ==== Sys2Proof/Word.lean ====
section
/-! DEFINITION. The value types of 00_scope.md R9. -/

namespace Sys2Proof

/-- `u32` of R9: a register, a word of SM, an element. -/
abbrev Word := BitVec 32

/-- `u8` of R9: a byte of BM, a bit width. -/
abbrev Byte := BitVec 8

end Sys2Proof
end

