-- ==== Sys2Proof/Syntax.lean ====
section
/-! DEFINITION. The 20 commands of 30_encoding.md R59, one constructor for each row of spec/opcode_table.json. -/

namespace Sys2Proof

/-- The transform families, field FAM of R56. -/
inductive Family where
  | van | m1 | d1 | d1z
  deriving DecidableEq, Repr

/-- The commands of R59. `bw` is the operand BW of the PK commands, a number 0..255 (R58). -/
inductive Instr where
  | xfVanFwd
  | xfVanFwdSelf
  | xfVanInv
  | xfVanInvSelf
  | xfM1Fwd
  | xfM1FwdSelf
  | xfM1Inv
  | xfM1InvSelf
  | xfD1zFwd
  | xfD1zFwdSelf
  | xfD1zInv
  | xfD1zInvSelf
  | packVan (bw : Nat)
  | packM1 (bw : Nat)
  | packD1 (bw : Nat)
  | packD1z (bw : Nat)
  | unpackVan (bw : Nat)
  | unpackM1 (bw : Nat)
  | unpackD1 (bw : Nat)
  | unpackD1z (bw : Nat)
  deriving DecidableEq, Repr

/-- The mnemonic of R59, without the operand (R63). -/
def Instr.mnemonic : Instr → String
  | .xfVanFwd => "XF.VAN.FWD"
  | .xfVanFwdSelf => "XF.VAN.FWD.SELF"
  | .xfVanInv => "XF.VAN.INV"
  | .xfVanInvSelf => "XF.VAN.INV.SELF"
  | .xfM1Fwd => "XF.M1.FWD"
  | .xfM1FwdSelf => "XF.M1.FWD.SELF"
  | .xfM1Inv => "XF.M1.INV"
  | .xfM1InvSelf => "XF.M1.INV.SELF"
  | .xfD1zFwd => "XF.D1Z.FWD"
  | .xfD1zFwdSelf => "XF.D1Z.FWD.SELF"
  | .xfD1zInv => "XF.D1Z.INV"
  | .xfD1zInvSelf => "XF.D1Z.INV.SELF"
  | .packVan _ => "PACK.VAN"
  | .packM1 _ => "PACK.M1"
  | .packD1 _ => "PACK.D1"
  | .packD1z _ => "PACK.D1Z"
  | .unpackVan _ => "UNPACK.VAN"
  | .unpackM1 _ => "UNPACK.M1"
  | .unpackD1 _ => "UNPACK.D1"
  | .unpackD1z _ => "UNPACK.D1Z"

/-- The operand BW of a PK command; an XF command has BW = 0 in its word (R59). -/
def Instr.bw : Instr → Nat
  | .packVan b | .packM1 b | .packD1 b | .packD1z b => b
  | .unpackVan b | .unpackM1 b | .unpackD1 b | .unpackD1z b => b
  | .xfVanFwd | .xfVanFwdSelf | .xfVanInv | .xfVanInvSelf => 0
  | .xfM1Fwd | .xfM1FwdSelf | .xfM1Inv | .xfM1InvSelf => 0
  | .xfD1zFwd | .xfD1zFwdSelf | .xfD1zInv | .xfD1zInvSelf => 0

end Sys2Proof
end

