-- ==== Sys2Proof/WellFormed.lean ====
section
/-! DEFINITION. Which terms of `Instr` an encoding exists for: the operand fits its field. -/

namespace Sys2Proof

/-- BW is `u8`, an unsigned integer 0..255 (30_encoding.md R57, R58). -/
def Instr.wellFormed (i : Instr) : Bool :=
  decide (i.bw < 256)

end Sys2Proof
end

