-- ==== Sys2Proof/Decode.lean ====
section
/-! DEFINITION. The command word: its fields (30_encoding.md R56, R57), the total decoder (R60, R61) and the
encoder (R56, R59, R64). -/

namespace Sys2Proof

/-- FAM, bits [1:0] (R57). -/
def fieldFam (w : Word) : BitVec 2 := w.extractLsb' 0 2
/-- DIR, bit 2 (R57). -/
def fieldDir (w : Word) : BitVec 1 := w.extractLsb' 2 1
/-- CLASS, bit 3 (R57). -/
def fieldClass (w : Word) : BitVec 1 := w.extractLsb' 3 1
/-- SELF, bit 4 (R57). -/
def fieldSelf (w : Word) : BitVec 1 := w.extractLsb' 4 1
/-- RSV0, bits [7:5] (R57). -/
def fieldRsv0 (w : Word) : BitVec 3 := w.extractLsb' 5 3
/-- BW, bits [15:8], read as an unsigned integer (R57). -/
def fieldBw (w : Word) : BitVec 8 := w.extractLsb' 8 8
/-- RSV1, bits [31:16] (R57). -/
def fieldRsv1 (w : Word) : BitVec 16 := w.extractLsb' 16 16

/-- The FAM numbering of R56. -/
def familyOf (f : BitVec 2) : Family :=
  if f = 0#2 then .van else if f = 1#2 then .m1 else if f = 2#2 then .d1 else .d1z

/-- `XF(FAM, DIR, SELF)` of R61, with DIR = 1 as `inv`. There is none for D1 (R60 b, R79). -/
def xfCommandOf (fam : Family) (inv self : Bool) : Option Instr :=
  match fam, inv, self with
  | .van, false, false => some .xfVanFwd
  | .van, false, true => some .xfVanFwdSelf
  | .van, true, false => some .xfVanInv
  | .van, true, true => some .xfVanInvSelf
  | .m1, false, false => some .xfM1Fwd
  | .m1, false, true => some .xfM1FwdSelf
  | .m1, true, false => some .xfM1Inv
  | .m1, true, true => some .xfM1InvSelf
  | .d1, _, _ => none
  | .d1z, false, false => some .xfD1zFwd
  | .d1z, false, true => some .xfD1zFwdSelf
  | .d1z, true, false => some .xfD1zInv
  | .d1z, true, true => some .xfD1zInvSelf

/-- `PK(FAM, DIR, BW)` of R61. -/
def pkCommandOf (fam : Family) (inv : Bool) (bw : Nat) : Instr :=
  match fam, inv with
  | .van, false => .packVan bw
  | .m1, false => .packM1 bw
  | .d1, false => .packD1 bw
  | .d1z, false => .packD1z bw
  | .van, true => .unpackVan bw
  | .m1, true => .unpackM1 bw
  | .d1, true => .unpackD1 bw
  | .d1z, true => .unpackD1z bw

/-- The decoder of R61, total on every word; `none` is ILLEGAL (R60, R62). -/
def decode (w : Word) : Option Instr :=
  if fieldRsv1 w ≠ 0#16 ∨ fieldRsv0 w ≠ 0#3 then none
  else if fieldClass w = 0#1 then
    if fieldBw w ≠ 0#8 then none
    else xfCommandOf (familyOf (fieldFam w)) (fieldDir w == 1#1) (fieldSelf w == 1#1)
  else if fieldSelf w = 1#1 then none
  else some (pkCommandOf (familyOf (fieldFam w)) (fieldDir w == 1#1) (fieldBw w).toNat)

/-- CMD32 put together from its fields (R56), the reserved bits 0. -/
def packFields (bw : BitVec 8) (self cls dir : BitVec 1) (fam : BitVec 2) : Word :=
  0#16 ++ bw ++ 0#3 ++ self ++ cls ++ dir ++ fam

/-- The word of a command (R59). A `bw` of 256 or more has no word; its low eight bits are taken. -/
def encode : Instr → Word
  | .xfVanFwd => packFields 0#8 0#1 0#1 0#1 0#2
  | .xfVanFwdSelf => packFields 0#8 1#1 0#1 0#1 0#2
  | .xfVanInv => packFields 0#8 0#1 0#1 1#1 0#2
  | .xfVanInvSelf => packFields 0#8 1#1 0#1 1#1 0#2
  | .xfM1Fwd => packFields 0#8 0#1 0#1 0#1 1#2
  | .xfM1FwdSelf => packFields 0#8 1#1 0#1 0#1 1#2
  | .xfM1Inv => packFields 0#8 0#1 0#1 1#1 1#2
  | .xfM1InvSelf => packFields 0#8 1#1 0#1 1#1 1#2
  | .xfD1zFwd => packFields 0#8 0#1 0#1 0#1 3#2
  | .xfD1zFwdSelf => packFields 0#8 1#1 0#1 0#1 3#2
  | .xfD1zInv => packFields 0#8 0#1 0#1 1#1 3#2
  | .xfD1zInvSelf => packFields 0#8 1#1 0#1 1#1 3#2
  | .packVan bw => packFields (BitVec.ofNat 8 bw) 0#1 1#1 0#1 0#2
  | .packM1 bw => packFields (BitVec.ofNat 8 bw) 0#1 1#1 0#1 1#2
  | .packD1 bw => packFields (BitVec.ofNat 8 bw) 0#1 1#1 0#1 2#2
  | .packD1z bw => packFields (BitVec.ofNat 8 bw) 0#1 1#1 0#1 3#2
  | .unpackVan bw => packFields (BitVec.ofNat 8 bw) 0#1 1#1 1#1 0#2
  | .unpackM1 bw => packFields (BitVec.ofNat 8 bw) 0#1 1#1 1#1 1#2
  | .unpackD1 bw => packFields (BitVec.ofNat 8 bw) 0#1 1#1 1#1 2#2
  | .unpackD1z bw => packFields (BitVec.ofNat 8 bw) 0#1 1#1 1#1 3#2

/-- The command the decoder reads from a word numbered as spec/opcode_table.json numbers its bits: `nbits` bits
are given, the bits above are 0. A command is one 32-bit register value (R55), so no byte order enters. -/
def decodeTableWord (nbits w : Nat) : Option Instr :=
  decode (BitVec.ofNat 32 (w % 2 ^ nbits))

end Sys2Proof
end

