-- ==== Sys2Proof/Config.lean ====
section
/-! DEFINITION. What an implementation fixes and what the spec leaves open: the type of an External Packer
(42_packer_interface.md R99), the uninterpreted packers, and the free values. The build parameters BL, SM_WORDS,
BM_BYTES, ARITH_CHECK, SM_INIT, BM_INIT and the bases stand in `State.params` (assumption log 1). -/

namespace Sys2Proof

/-- The six total functions of an External Packer at one block length (R98, R99). A width is passed as the
number 1..32. A `values` field of a response has exactly BL elements (R102): it is given by element index, and
the TU takes the elements 0 to BL - 1 (assumption log 14). -/
structure Packer where
  /-- KIND 0. -/
  estimate : List Word → Byte
  /-- KIND 1. -/
  compress : List Word → Nat → List Byte
  /-- KIND 2: the values by index, and the count. -/
  decompress : List Byte → Nat → (Nat → Word) × Word
  /-- KIND 3. -/
  estimateSorted : Word → List Word → Byte
  /-- KIND 4. -/
  compressSorted : Word → List Word → Nat → List Byte
  /-- KIND 5. -/
  decompressSorted : Word → List Byte → Nat → (Nat → Word) × Word
  deriving Inhabited

/-- The External Packer of variant `variant` at block length `bl` (R4, R7, R8): a parameter of the model, with
no body, so nothing can be proved of what it answers (assumption log 2). -/
opaque Config.externalPacker : (variant bl : Nat) → Packer

/-- What a host read of an SM word returns while BUSY = 1 (20_memory.md R46), draw `n` (assumption log 7). -/
opaque Config.freeWord : (n : Nat) → Word

/-- What a host read of a BM byte returns while BUSY = 1 (R46), draw `n` (assumption log 7). -/
opaque Config.freeByte : (n : Nat) → Byte

/-- What SCR word `k` holds after a reset, a completion or an error (10_state.md R33), draw `n` (log 8). -/
opaque Config.freeScr : (n k : Nat) → Word

/-- What PRE_VAL holds after a reset, a completion or an error (10_state.md R34), draw `n` (log 8). -/
opaque Config.freePreVal : (n : Nat) → Word

/-- What IDX holds, before it is brought into 0..BL, after a reset, a completion or an error (10_state.md R35),
draw `n` (log 8). -/
opaque Config.freeIdx : (n : Nat) → Nat

end Sys2Proof
end

