-- ==== Sys2Proof/Machine/State.lean ====
section
/-! DEFINITION. The state of BPP-TU: everything the spec gives the machine, as plain data, and the state right
after reset. -/

namespace Sys2Proof.Machine

/-- Which External Packer the build is connected to (00_scope.md R7, R8; assumption log 2). -/
inductive PackerChoice where
  /-- An External Packer variant of which nothing is known. -/
  | external (variant : Nat)
  /-- TEST-EP, the fixture of 95_test_vectors.md section 1. -/
  | testEp
  /-- EP-X of 95_test_vectors.md section 6: TEST-EP, but decompress returns count = len(P). -/
  | testEpX
  /-- EP-Y of 95_test_vectors.md section 6: TEST-EP, but both estimators always return 40 (assumption log 13). -/
  | testEpY
  deriving DecidableEq, Repr

/-- The build parameters (00_scope.md R7; SM_INIT and BM_INIT, 70_reset_and_hazards.md R147). No step changes them. -/
structure Params where
  /-- BL, the block length. -/
  bl : Nat
  /-- SM_WORDS. -/
  smWords : Nat
  /-- BM_BYTES. -/
  bmBytes : Nat
  /-- ARITH_CHECK = 1. -/
  arithCheck : Bool
  /-- EP. -/
  packer : PackerChoice
  /-- SM_INIT: word `i` is entry `i` of the list, 0 past its end (assumption log 3). -/
  smInit : List Word
  /-- BM_INIT, as `smInit`. -/
  bmInit : List Byte
  /-- REG_BASE (assumption log 15). -/
  regBase : Nat
  /-- SM_BASE (assumption log 15). -/
  smBase : Nat
  /-- BM_BASE (assumption log 15). -/
  bmBase : Nat
  deriving DecidableEq, Repr

/-- The completion codes of STATUS.ERR (60_exceptions.md R128). -/
inductive ErrCode where
  | none | illegal | length | width | zeroWidth | invalidValue | range | packer
  deriving DecidableEq, Repr

/-- PHASE, the controller state (10_state.md R32). -/
inductive Phase where
  | idle | run
  deriving DecidableEq, Repr

/-- A host access (20_memory.md R41). A register is named by the byte address the host uses, from REG_BASE on;
SM and BM by index. -/
inductive HostAccess where
  /-- A 32-bit read of the register at a byte address. -/
  | regRead (addr : Nat)
  /-- A 32-bit write of the register at a byte address. -/
  | regWrite (addr : Nat) (v : Word)
  /-- `SMRead(i)`. -/
  | smRead (i : Nat)
  /-- `SMWrite(i, v)`. -/
  | smWrite (i : Nat) (v : Word)
  /-- `BMRead(j)`. -/
  | bmRead (j : Nat)
  /-- `BMWrite(j, v)`. -/
  | bmWrite (j : Nat) (v : Byte)
  /-- An access of any other width, which the block does not define. -/
  | otherWidth (bits addr : Nat)
  deriving DecidableEq, Repr

/-- What the world outside does next (assumption log 4). -/
inductive Input where
  /-- The host makes an access. -/
  | access (a : HostAccess)
  /-- The TU takes its turn: a running command completes. -/
  | tuTurn
  /-- The platform asserts (`true`) or releases (`false`) the reset input (70_reset_and_hazards.md R145). -/
  | resetLine (asserted : Bool)
  deriving DecidableEq, Repr

/-- What a host read returned (assumption log 6). -/
inductive Reply where
  /-- No host read has been made yet. -/
  | nothing
  /-- A register or an SM word. -/
  | word (v : Word)
  /-- A BM byte. -/
  | byte (v : Byte)
  deriving DecidableEq, Repr

/-- The state of the machine. -/
structure State where
  /-- The build parameters. -/
  params : Params
  /-- CMD (10_state.md R17). -/
  cmd : Word
  /-- LEN (R18). -/
  len : Word
  /-- SRC_PTR (R19). -/
  srcPtr : Word
  /-- DST_PTR (R19). -/
  dstPtr : Word
  /-- BYTE_PTR (R19). -/
  bytePtr : Word
  /-- BYTE_CAP (R19). -/
  byteCap : Word
  /-- INIT (R20). -/
  init : Word
  /-- STATUS.BUSY (R22). -/
  busy : Bool
  /-- STATUS.DONE (R22). -/
  done : Bool
  /-- STATUS.ERR (R22). -/
  err : ErrCode
  /-- RESULT (R23). -/
  result : Word
  /-- RESOLVED_BW, the 8-bit field (R24). -/
  resolvedBw : Byte
  /-- N_RECOVERED (R25). -/
  nRecovered : Word
  /-- SEED (R26). -/
  seed : Word
  /-- PHASE (R32). -/
  phase : Phase
  /-- SCR (R33): what the staging buffer holds between commands (assumption log 8). -/
  scr : List Word
  /-- PRE_VAL (R34), between commands (assumption log 8). -/
  preVal : Word
  /-- IDX (R35), between commands (assumption log 8). -/
  idx : Nat
  /-- SM (20_memory.md R37): the words that differ from SM_INIT, by rising index. -/
  sm : List (Nat × Word)
  /-- BM (R38): the bytes that differ from BM_INIT, by rising index. -/
  bm : List Host.Cell
  /-- The reset input is asserted (70_reset_and_hazards.md R145). -/
  resetLine : Bool
  /-- The model's own: what the world outside does next, first to last. -/
  inputs : List Input
  /-- The model's own: what the last host read returned. -/
  reply : Reply
  /-- The model's own: how many free values have been drawn. -/
  freeCount : Nat
  deriving DecidableEq, Repr

/-- A step that stops the machine: an access to a cell that does not exist. The spec says that the model refuses
it (20_memory.md R41, 93_implementation_defined.md row 14); it has no next state (assumption log 9). -/
inductive Fault where
  /-- A host access of SM at an index at or past SM_WORDS. Raised by the host's access. Safe. -/
  | smIndexOutside
  /-- A host access of BM at an index at or past BM_BYTES. Raised by the host's access. Safe. -/
  | bmIndexOutside
  deriving DecidableEq, Repr

/-- A step the model has no meaning for (assumption log 9). -/
inductive Refusal where
  /-- A command with no meaning in this model, by its mnemonic. Raised by `exec` only. Safe. -/
  | notModelled (mnemonic : String)
  /-- A register access that is not aligned (20_memory.md R41). Raised by the host's access. Safe. -/
  | misalignedRegister
  /-- An access outside register offsets 0x00 to 0x3F (10_state.md R28). Raised by the host's access. Safe. -/
  | outsideRegisterMap
  /-- An access of a width R41 does not list. Raised by the host's access. Safe. -/
  | otherWidth
  /-- A host access while reset is asserted (70_reset_and_hazards.md R145). Raised by the host's access. Safe. -/
  | accessDuringReset
  deriving DecidableEq, Repr

/-- A build's state after power-on and reset (70_reset_and_hazards.md R146, R147), the host idle. SCR, PRE_VAL and
IDX are unspecified there: zero is this model's choice (assumption log 8). -/
def State.powerOn (p : Params) : State where
  params := p
  cmd := 0#32
  len := 0#32
  srcPtr := 0#32
  dstPtr := 0#32
  bytePtr := 0#32
  byteCap := 0#32
  init := 0#32
  busy := false
  done := false
  err := .none
  result := 0#32
  resolvedBw := 0#8
  nRecovered := 0#32
  seed := 0#32
  phase := .idle
  scr := List.replicate p.bl 0#32
  preVal := 0#32
  idx := 0
  sm := []
  bm := []
  resetLine := false
  inputs := []
  reply := .nothing
  freeCount := 0

/-- The build of the fixed reset state: the settings of 95_test_vectors.md, with a packer of which nothing is
known. DESIGN CHOICE (assumption log 1). -/
def Params.reference : Params where
  bl := 8
  smWords := 64
  bmBytes := 64
  arithCheck := false
  packer := .external 0
  smInit := []
  bmInit := []
  regBase := 0
  smBase := 0
  bmBase := 0

/-- The machine right after reset (R146). -/
def State.reset : State := State.powerOn Params.reference

end Sys2Proof.Machine
end

