-- ==== Sys2Proof/Machine/Flags.lean ====
section
/-! DEFINITION. The flags: STATUS and its codes (10_state.md R22, R31; 60_exceptions.md R128), and the other
registers whose words are put together from fields (R24, R27). There is no arithmetic flag (R31). -/

namespace Sys2Proof.Machine

/-- The number of a completion code in the 4-bit field STATUS.ERR (R128). -/
def ErrCode.code : ErrCode → BitVec 4
  | .none => 0#4
  | .illegal => 1#4
  | .length => 2#4
  | .width => 3#4
  | .zeroWidth => 4#4
  | .invalidValue => 5#4
  | .range => 6#4
  | .packer => 7#4

/-- STATUS (R22): ERR in bits [11:8], DONE in bit 1, BUSY in bit 0, the rest 0. -/
def State.statusWord (s : State) : Word :=
  0#20 ++ s.err.code ++ 0#6 ++ BitVec.ofBool s.done ++ BitVec.ofBool s.busy

/-- RESOLVED_BW (R24): the width in bits [7:0], the rest 0. -/
def State.resolvedBwWord (s : State) : Word :=
  s.resolvedBw.setWidth 32

/-- PARAM (R27): BL in bits [31:8], ARITH_CHECK in bit 0, the rest 0. -/
def State.paramWord (s : State) : Word :=
  BitVec.ofNat 32 (s.params.bl * 256 + s.params.arithCheck.toNat)

end Sys2Proof.Machine
end

