-- ==== Sys2Proof/Machine/Ops.lean ====
section
/-! DEFINITION. The named operations over memories and registers: SM and BM in canonical form, the free draws, the
accepted GO, and the two completion steps. `raise Error(CODE)`, the only exception entry the block has
(60_exceptions.md R131, R136), is `State.completeErr`. There is no handler and no return from one (R132): what
ends the state an error leaves is the next accepted GO, `State.acceptGo`. -/

namespace Sys2Proof.Machine

/-! ### Memory: the cells that differ from what an unlisted index reads as -/

/-- Reads index `i`: the entry of `i`, or `dflt i` where there is none. -/
def Memory.read {w : Nat} (dflt : Nat → BitVec w) : List (Nat × BitVec w) → Nat → BitVec w
  | [], i => dflt i
  | c :: m, i => if c.1 = i then c.2 else Memory.read dflt m i

/-- Takes every entry of index `i` out. -/
def Memory.erase {w : Nat} (m : List (Nat × BitVec w)) (i : Nat) : List (Nat × BitVec w) :=
  m.filter (fun c => c.1 != i)

/-- Puts an entry in front of the first entry of a greater index. -/
def Memory.insert {w : Nat} : List (Nat × BitVec w) → Nat → BitVec w → List (Nat × BitVec w)
  | [], i, v => [(i, v)]
  | c :: m, i, v => if i < c.1 then (i, v) :: c :: m else c :: Memory.insert m i v

/-- Writes `v` at index `i`; a value equal to what the unlisted index reads as leaves no entry. -/
def Memory.write {w : Nat} (dflt : Nat → BitVec w) (m : List (Nat × BitVec w)) (i : Nat) (v : BitVec w) :
    List (Nat × BitVec w) :=
  if v = dflt i then Memory.erase m i else Memory.insert (Memory.erase m i) i v

/-- Writes a list of values at `p`, `p + 1`, … -/
def Memory.writeSeq {w : Nat} (dflt : Nat → BitVec w) :
    List (Nat × BitVec w) → Nat → List (BitVec w) → List (Nat × BitVec w)
  | m, _, [] => m
  | m, p, x :: xs => Memory.writeSeq dflt (Memory.write dflt m p x) (p + 1) xs

/-- The canonical form: indices strictly rising, and no entry equal to what the unlisted index reads as. -/
def Memory.wf {w : Nat} (dflt : Nat → BitVec w) : List (Nat × BitVec w) → Bool
  | [] => true
  | c :: m => c.2 != dflt c.1 && m.all (fun d => decide (c.1 < d.1)) && Memory.wf dflt m

/-- Every entry's index is below `size`. -/
def Memory.within {w : Nat} (size : Nat) (m : List (Nat × BitVec w)) : Bool :=
  m.all (fun c => decide (c.1 < size))

/-- SM_INIT (70_reset_and_hazards.md R147; assumption log 3): what an SM word reads as until it is written. -/
def Params.smInitAt (p : Params) (i : Nat) : Word := p.smInit.getD i 0#32

/-- BM_INIT (R147; assumption log 3): what a BM byte reads as until it is written. -/
def Params.bmInitAt (p : Params) (j : Nat) : Byte := p.bmInit.getD j 0#8

/-- `SMRead(i)` (00_scope.md R11). -/
def State.smRead (s : State) (i : Nat) : Word := Memory.read s.params.smInitAt s.sm i

/-- `BMRead(j)` (R11). -/
def State.bmRead (s : State) (j : Nat) : Byte := Memory.read s.params.bmInitAt s.bm j

/-- `SMWrite(p + k, xs[k])` for each `k`; one word is a list of one. -/
def State.smWrite (s : State) (p : Nat) (xs : List Word) : State :=
  { s with sm := Memory.writeSeq s.params.smInitAt s.sm p xs }

/-- `BMWrite(p + k, bs[k])` for each `k` (43_composed_commands.md R114). -/
def State.bmWrite (s : State) (p : Nat) (bs : List Byte) : State :=
  { s with bm := Memory.writeSeq s.params.bmInitAt s.bm p bs }

/-- The sequence at word index `p` with length `n` (00_scope.md R12). -/
def State.smSeq (s : State) (p n : Nat) : List Word :=
  (List.range n).map (fun k => s.smRead (p + k))

/-- The `n` bytes of BM from `p` on (42_packer_interface.md R101). -/
def State.bmSeq (s : State) (p n : Nat) : List Byte :=
  (List.range n).map (fun k => s.bmRead (p + k))

/-! ### Free draws -/

/-- SCR, PRE_VAL and IDX become unspecified: free values (10_state.md R33 to R35; 60_exceptions.md R131;
93_implementation_defined.md row 12; assumption log 8). -/
def State.freeInternals (s : State) : State :=
  { s with
    scr := (List.range s.params.bl).map (Config.freeScr s.freeCount)
    preVal := Config.freePreVal s.freeCount
    idx := Config.freeIdx s.freeCount % (s.params.bl + 1)
    freeCount := s.freeCount + 1 }

/-! ### GO, result registers, completion -/

/-- An accepted GO (10_state.md R21, R32): BUSY rises; DONE, ERR and the result registers are cleared. -/
def State.acceptGo (s : State) : State :=
  { s with
    busy := true
    done := false
    err := .none
    result := 0#32
    resolvedBw := 0#8
    nRecovered := 0#32
    seed := 0#32
    phase := .run }

/-- The result registers an XF command writes (41_transform_commands.md R85). -/
def State.setXfResults (s : State) (len seed : Word) : State :=
  { s with result := len, seed := seed }

/-- The result registers a PACK command writes (43_composed_commands.md R113). -/
def State.setPackResults (s : State) (bytesWritten : Word) (bw : Byte) (seed : Word) : State :=
  { s with result := bytesWritten, resolvedBw := bw, seed := seed }

/-- The result registers an UNPACK command writes (43_composed_commands.md R120). -/
def State.setUnpackResults (s : State) (count : Word) (bw : Byte) (nrec : Word) : State :=
  { s with result := count, resolvedBw := bw, nRecovered := nrec }

/-- COMPLETE_OK of 60_exceptions.md R130, after the command's own writes. -/
def State.completeOk (s : State) : State :=
  { s.freeInternals with err := .none, busy := false, done := true, phase := .idle }

/-- COMPLETE_ERR of 60_exceptions.md R131: the result registers keep what the accepted GO wrote, memory keeps
everything (assumption log 12). -/
def State.completeErr (s : State) (c : ErrCode) : State :=
  { s.freeInternals with err := c, busy := false, done := true, phase := .idle }

/-- How a command ends: with the state its body reached (R130), or with the error it raised (R131). -/
def finish (s : State) (r : Except ErrCode State) : Host.Outcome State Fault Refusal :=
  match r with
  | .ok t => .next t.completeOk
  | .error c => .next (s.completeErr c)

/-! ### Reset -/

/-- What asserting reset sets (70_reset_and_hazards.md R146, R148): the registers, STATUS and PHASE; SCR, PRE_VAL and
IDX become unspecified; SM, BM and the build parameters keep. -/
def State.resetRegisters (s : State) : State :=
  { s.freeInternals with
    cmd := 0#32
    len := 0#32
    srcPtr := 0#32
    dstPtr := 0#32
    bytePtr := 0#32
    byteCap := 0#32
    init := 0#32
    busy := false
    done := false
    err := .none
    result := 0#32
    resolvedBw := 0#8
    nRecovered := 0#32
    seed := 0#32
    phase := .idle }

/-- The reset input changes (R145, R148; assumption log 10). -/
def State.setResetLine (s : State) (asserted : Bool) : State :=
  if asserted then { s.resetRegisters with resetLine := true } else { s with resetLine := false }

end Sys2Proof.Machine
end

