-- ==== Sys2Proof/Machine/HostPort.lean ====
section
/-! DEFINITION. The host's side: the register map (10_state.md R16 to R30), the six kinds of access (20_memory.md
R41, R46, R47), and the host's shorthand of 30_encoding.md R63, R64. -/

namespace Sys2Proof.Machine

/-- The 16 registers of R16. -/
inductive Reg where
  | cmd | len | srcPtr | dstPtr | bytePtr | byteCap | init | ctrl
  | status | result | resolvedBw | nRecovered | seed | param | reserved38 | reserved3C
  deriving DecidableEq, Repr

/-- The byte offset of a register (R16). -/
def Reg.offset : Reg → Nat
  | .cmd => 0x00
  | .len => 0x04
  | .srcPtr => 0x08
  | .dstPtr => 0x0C
  | .bytePtr => 0x10
  | .byteCap => 0x14
  | .init => 0x18
  | .ctrl => 0x1C
  | .status => 0x20
  | .result => 0x24
  | .resolvedBw => 0x28
  | .nRecovered => 0x2C
  | .seed => 0x30
  | .param => 0x34
  | .reserved38 => 0x38
  | .reserved3C => 0x3C

/-- All registers, by rising offset. -/
def Reg.all : List Reg :=
  [.cmd, .len, .srcPtr, .dstPtr, .bytePtr, .byteCap, .init, .ctrl,
   .status, .result, .resolvedBw, .nRecovered, .seed, .param, .reserved38, .reserved3C]

/-- The register at an offset. -/
def Reg.ofOffset (off : Nat) : Option Reg := Reg.all.find? (fun r => r.offset == off)

/-- The byte address of a register in the host's map: REG_BASE + offset (R16, R48). -/
def Params.regAddr (p : Params) (r : Reg) : Nat := p.regBase + r.offset

/-- Which register an access at a byte address reaches (R16, R28, R41; assumption log 9). -/
def regAt (p : Params) (addr : Nat) : Except Refusal Reg :=
  if addr < p.regBase ∨ p.regBase + 0x40 ≤ addr then .error .outsideRegisterMap
  else match Reg.ofOffset (addr - p.regBase) with
    | some r => .ok r
    | none => .error .misalignedRegister

/-- What a host read of a register returns (R16 to R28, R30). -/
def State.readReg (s : State) : Reg → Word
  | .cmd => s.cmd
  | .len => s.len
  | .srcPtr => s.srcPtr
  | .dstPtr => s.dstPtr
  | .bytePtr => s.bytePtr
  | .byteCap => s.byteCap
  | .init => s.init
  | .ctrl => 0#32
  | .status => s.statusWord
  | .result => s.result
  | .resolvedBw => s.resolvedBwWord
  | .nRecovered => s.nRecovered
  | .seed => s.seed
  | .param => s.paramWord
  | .reserved38 => 0#32
  | .reserved3C => 0#32

/-- A host write of CTRL while BUSY = 0: bit 0 is GO, the other bits are ignored (R21). -/
def State.writeCtrl (s : State) (v : Word) : State :=
  if v.getLsbD 0 then s.acceptGo else s

/-- A host write of a register (R16 to R29): dropped while BUSY = 1. -/
def State.writeReg (s : State) (r : Reg) (v : Word) : State :=
  if s.busy then s
  else match r with
    | .cmd => { s with cmd := v }
    | .len => { s with len := v }
    | .srcPtr => { s with srcPtr := v }
    | .dstPtr => { s with dstPtr := v }
    | .bytePtr => { s with bytePtr := v }
    | .byteCap => { s with byteCap := v }
    | .init => { s with init := v }
    | .ctrl => s.writeCtrl v
    | .status | .result | .resolvedBw | .nRecovered | .seed | .param | .reserved38 | .reserved3C => s

/-- The host gets an answer. -/
def State.setReply (s : State) (r : Reply) : State := { s with reply := r }

/-- `SMRead(i)` by the host: a free value while BUSY = 1 (20_memory.md R46; assumption log 7). -/
def State.hostSmRead (s : State) (i : Nat) : State :=
  if s.busy then { s with reply := .word (Config.freeWord s.freeCount), freeCount := s.freeCount + 1 }
  else s.setReply (.word (s.smRead i))

/-- `BMRead(j)` by the host: a free value while BUSY = 1 (R46; assumption log 7). -/
def State.hostBmRead (s : State) (j : Nat) : State :=
  if s.busy then { s with reply := .byte (Config.freeByte s.freeCount), freeCount := s.freeCount + 1 }
  else s.setReply (.byte (s.bmRead j))

/-- `SMWrite(i, v)` by the host: dropped while BUSY = 1 (R46). -/
def State.hostSmWrite (s : State) (i : Nat) (v : Word) : State :=
  if s.busy then s else s.smWrite i [v]

/-- `BMWrite(j, v)` by the host: dropped while BUSY = 1 (R46). -/
def State.hostBmWrite (s : State) (j : Nat) (v : Byte) : State :=
  if s.busy then s else s.bmWrite j [v]

/-- A host access (20_memory.md R41). While reset is asserted no access is defined (70_reset_and_hazards.md R145). -/
def hostAccess (a : HostAccess) (s : State) : Host.Outcome State Fault Refusal :=
  if s.resetLine then .refused .accessDuringReset
  else match a with
    | .regRead addr =>
      match regAt s.params addr with
      | .ok r => .next (s.setReply (.word (s.readReg r)))
      | .error e => .refused e
    | .regWrite addr v =>
      match regAt s.params addr with
      | .ok r => .next (s.writeReg r v)
      | .error e => .refused e
    | .smRead i => if i < s.params.smWords then .next (s.hostSmRead i) else .fault .smIndexOutside
    | .smWrite i v => if i < s.params.smWords then .next (s.hostSmWrite i v) else .fault .smIndexOutside
    | .bmRead j => if j < s.params.bmBytes then .next (s.hostBmRead j) else .fault .bmIndexOutside
    | .bmWrite j v => if j < s.params.bmBytes then .next (s.hostBmWrite j v) else .fault .bmIndexOutside
    | .otherWidth _ _ => .refused .otherWidth

/-! ### The host's shorthand (30_encoding.md R63, R64) -/

/-- `wr NAME, v`. -/
def hostWr (p : Params) (r : Reg) (v : Word) : Input := .access (.regWrite (p.regAddr r) v)

/-- `rd NAME`. -/
def hostRd (p : Params) (r : Reg) : Input := .access (.regRead (p.regAddr r))

/-- `cmd <mnemonic>`: write the encoding to CMD. -/
def hostCmd (p : Params) (i : Instr) : Input := hostWr p .cmd (encode i)

/-- `go`: write 1 to CTRL. -/
def hostGo (p : Params) : Input := hostWr p .ctrl 1#32

/-- `run <mnemonic>`: `cmd`, `go`, and `wait`, whose last poll follows the TU's turn and reads DONE = 1. -/
def hostRun (p : Params) (i : Instr) : List Input :=
  [hostCmd p i, hostGo p, .tuTurn, hostRd p .status]

end Sys2Proof.Machine
end

