-- ==== Sys2Proof/Machine/Datapath.lean ====
section
/-! DEFINITION. The element datapath of 40_element_datapath.md: the offset remap unit, the zigzag coder and decoder,
and the two delta pipelines. Every result is computed exactly, over Int, and narrowed by `fit32` (R65, R66);
`chk` is ARITH_CHECK = 1. PRE_VAL is the argument `pre` of the pipelines' recursion (10_state.md R34), IDX its
position (R35). -/

namespace Sys2Proof.Machine

/-- `fit32` of R66. -/
def fit32 (chk : Bool) (v : Int) : Except ErrCode Word :=
  if 0 ≤ v ∧ v ≤ 2 ^ 32 - 1 then .ok (BitVec.ofInt 32 v)
  else if chk then .error .range
  else .ok (BitVec.ofInt 32 v)

/-- Applies an element function in ascending order, stopping at the first error (R81). -/
def mapElements (f : Word → Except ErrCode Word) : List Word → Except ErrCode (List Word)
  | [] => .ok []
  | x :: xs => do
    let y ← f x
    let ys ← mapElements f xs
    .ok (y :: ys)

/-! ### Offset remap unit -/

/-- `OFS_FWD` of R68; the commands use it only for `x >= 1`. -/
def ofsFwd (x : Word) : Word := x - 1#32

/-- `OFS_INV` of R69. -/
def ofsInv (chk : Bool) (y : Word) : Except ErrCode Word := fit32 chk ((y.toNat : Int) + 1)

/-- The m1 forward transform of a sequence with its precondition check, made before any other work (R68, R90). -/
def m1Forward (S : List Word) : Except ErrCode (List Word) :=
  if 0#32 ∈ S then .error .invalidValue else .ok (S.map ofsFwd)

/-- The m1 inverse transform of a sequence (R69, R92). -/
def m1Inverse (chk : Bool) (S : List Word) : Except ErrCode (List Word) :=
  mapElements (ofsInv chk) S

/-! ### Zigzag coder and decoder -/

/-- `ZZ_ENC` of R71. -/
def zzEnc (chk : Bool) (pre cur : Word) : Except ErrCode Word :=
  if cur < pre then fit32 chk (2 * ((pre.toNat : Int) - cur.toNat) - 1)
  else fit32 chk (2 * ((cur.toNat : Int) - pre.toNat))

/-- `ZZ_DEC` of R72. -/
def zzDec (chk : Bool) (pre code : Word) : Except ErrCode Word :=
  if code.toNat % 2 > 0 then fit32 chk ((pre.toNat : Int) - (code.toNat / 2 : Nat) - 1)
  else fit32 chk ((pre.toNat : Int) + (code.toNat / 2 : Nat))

/-! ### Delta transform unit -/

/-- The loop of DELTA_ZZ_FWD (R74), entered with PRE_VAL = `pre`. -/
def deltaEncFrom (chk : Bool) (pre : Word) : List Word → Except ErrCode (List Word)
  | [] => .ok []
  | cur :: rest => do
    let code ← zzEnc chk pre cur
    let codes ← deltaEncFrom chk cur rest
    .ok (code :: codes)

/-- The loop of DELTA_ZZ_INV (R76), entered with PRE_VAL = `pre`. -/
def deltaDecFrom (chk : Bool) (pre : Word) : List Word → Except ErrCode (List Word)
  | [] => .ok []
  | code :: rest => do
    let val ← zzDec chk pre code
    let vals ← deltaDecFrom chk val rest
    .ok (val :: vals)

/-- Element 0 of a sequence, the forward seed (R74); the commands take it of sequences of length 1 and more. -/
def seedOf (S : List Word) : Word := S.headD 0#32

/-- `DELTA_ZZ_FWD(S)` of R74: PRE_VAL starts as element 0. -/
def deltaZzFwd (chk : Bool) (S : List Word) : Except ErrCode (List Word) :=
  deltaEncFrom chk (seedOf S) S

/-- `DELTA_ZZ_INV(init, C)` of R76. -/
def deltaZzInv (chk : Bool) (init : Word) (C : List Word) : Except ErrCode (List Word) :=
  deltaDecFrom chk init C

/-! ### Vanilla -/

/-- VAN and VAN_INV, the identity (R80). -/
def vanIdentity (S : List Word) : Except ErrCode (List Word) := .ok S

end Sys2Proof.Machine
end

