-- ==== Sys2Proof/Machine/Packer.lean ====
section
/-! DEFINITION. The packer interface (42_packer_interface.md): the six requests, what the TU checks of a response
(R104), which External Packer answers, and TEST-EP of 95_test_vectors.md section 1. -/

namespace Sys2Proof.Machine

/-! ### TEST-EP -/

/-- The number whose bit `k`, for `k < n`, is `f k`. -/
def bitsToNat : Nat → (Nat → Bool) → Nat
  | 0, _ => 0
  | n + 1, f => (f 0).toNat + 2 * bitsToNat n (fun k => f (k + 1))

/-- `width(v)`: the least `w` in [0, 32] with every v[i] < 2^w. -/
def testWidth (v : List Word) : Nat :=
  ((List.range 33).find? (fun w => v.all (fun x => decide (x.toNat < 2 ^ w)))).getD 32

/-- The bit string of TEST.compress: bit (i*b + k) is bit k of v[i] mod 2^b. -/
def testBit (v : List Word) (b n : Nat) : Bool :=
  ((v.getD (n / b) 0#32).toNat % 2 ^ b).testBit (n % b)

/-- `TEST.compress(v, b)` at block length `bl`. -/
def testCompress (bl : Nat) (v : List Word) (b : Nat) : List Byte :=
  (List.range (bl * b / 8)).map (fun j => BitVec.ofNat 8 (bitsToNat 8 (fun t => testBit v b (8 * j + t))))

/-- The count of `TEST.decompress(P, b)`. -/
def testCount (bl : Nat) (P : List Byte) (b : Nat) : Nat := min (bl * b / 8) P.length

/-- Element `i` of `TEST.decompress(P, b)`: bits [i*b, i*b + b) of the bytes P[0 .. cnt-1], missing bits 0. -/
def testElement (bl : Nat) (P : List Byte) (b i : Nat) : Word :=
  BitVec.ofNat 32 (bitsToNat b (fun k =>
    decide ((i * b + k) / 8 < testCount bl P b) && (P.getD ((i * b + k) / 8) 0#8).getLsbD ((i * b + k) % 8)))

/-- `delta(init, v)`: each element less the one before it, modulo 2^32. -/
def testDelta (init : Word) : List Word → List Word
  | [] => []
  | x :: xs => (x - init) :: testDelta x xs

/-- `init + d[0] + … + d[i]`, modulo 2^32. -/
def testPrefix (init : Word) (d : Nat → Word) : Nat → Word
  | 0 => init + d 0
  | i + 1 => testPrefix init d i + d (i + 1)

/-- TEST-EP at block length `bl`. -/
def testEp (bl : Nat) : Packer where
  estimate v := BitVec.ofNat 8 (testWidth v)
  compress v b := testCompress bl v b
  decompress P b := (testElement bl P b, BitVec.ofNat 32 (testCount bl P b))
  estimateSorted init v := BitVec.ofNat 8 (testWidth (testDelta init v))
  compressSorted init v b := testCompress bl (testDelta init v) b
  decompressSorted init P b := (testPrefix init (testElement bl P b), BitVec.ofNat 32 bl)

/-- The External Packer the build is connected to (00_scope.md R7, R8; assumption log 2). -/
def Params.ep (p : Params) : Packer :=
  match p.packer with
  | .external variant => Config.externalPacker variant p.bl
  | .testEp => testEp p.bl
  | .testEpX => { testEp p.bl with
      decompress := fun P b => (testElement p.bl P b, BitVec.ofNat 32 P.length) }
  | .testEpY => { testEp p.bl with
      estimate := fun _ => 40#8
      estimateSorted := fun _ _ => 40#8 }

/-! ### Requests and responses (R98) -/

/-- A width request: KIND 0 or 3. -/
inductive EstimateRequest where
  | plain (values : List Word)
  | sorted (initial : Word) (values : List Word)
  deriving DecidableEq, Repr

/-- A compress request: KIND 1 or 4. -/
inductive CompressRequest where
  | plain (values : List Word) (bw : Nat)
  | sorted (initial : Word) (values : List Word) (bw : Nat)
  deriving DecidableEq, Repr

/-- A decompress request: KIND 2 or 5. -/
inductive DecompressRequest where
  | plain (bytes : List Byte) (bw : Nat)
  | sorted (initial : Word) (bytes : List Byte) (bw : Nat)
  deriving DecidableEq, Repr

/-- KIND of a width request (R98). -/
def EstimateRequest.kind : EstimateRequest → Nat
  | .plain _ => 0
  | .sorted _ _ => 3

/-- KIND of a compress request (R98). -/
def CompressRequest.kind : CompressRequest → Nat
  | .plain _ _ => 1
  | .sorted _ _ _ => 4

/-- KIND of a decompress request (R98). -/
def DecompressRequest.kind : DecompressRequest → Nat
  | .plain _ _ => 2
  | .sorted _ _ _ => 5

/-- The packer's response to a width request: bw_est (R99). -/
def answerEstimate (ep : Packer) : EstimateRequest → Byte
  | .plain v => ep.estimate v
  | .sorted init v => ep.estimateSorted init v

/-- The packer's response to a compress request: the Compressed Block (R99). -/
def answerCompress (ep : Packer) : CompressRequest → List Byte
  | .plain v bw => ep.compress v bw
  | .sorted init v bw => ep.compressSorted init v bw

/-- The values field of a response, exactly BL elements (R102). -/
def blockValues (bl : Nat) (vs : Nat → Word) : List Word := (List.range bl).map vs

/-- The packer's response to a decompress request: BL values and the count (R99, R102). -/
def answerDecompress (bl : Nat) (ep : Packer) : DecompressRequest → List Word × Word
  | .plain P bw => (blockValues bl (ep.decompress P bw).1, (ep.decompress P bw).2)
  | .sorted init P bw => (blockValues bl (ep.decompressSorted init P bw).1, (ep.decompressSorted init P bw).2)

/-- The largest count the TU takes of a decompress response: BYTE_CAP bytes for KIND 2, BL elements for KIND 5
(R104, check 3). -/
def countLimit (bl byteCap : Nat) : DecompressRequest → Nat
  | .plain _ _ => byteCap
  | .sorted _ _ _ => bl

/-- A width request and check 1 of R104. -/
def requestEstimate (p : Params) (q : EstimateRequest) : Except ErrCode Nat :=
  if (answerEstimate p.ep q).toNat > 32 then .error .packer else .ok (answerEstimate p.ep q).toNat

/-- A compress request and check 2 of R104. -/
def requestCompress (p : Params) (byteCap : Nat) (q : CompressRequest) : Except ErrCode (List Byte) :=
  if (answerCompress p.ep q).length > byteCap then .error .packer else .ok (answerCompress p.ep q)

/-- A decompress request and check 3 of R104. -/
def requestDecompress (p : Params) (byteCap : Nat) (q : DecompressRequest) : Except ErrCode (List Word × Word) :=
  if (answerDecompress p.bl p.ep q).2.toNat > countLimit p.bl byteCap q then .error .packer
  else .ok (answerDecompress p.bl p.ep q)

end Sys2Proof.Machine
end

