-- ==== Sys2Proof/Machine/Mux.lean ====
section
/-! DEFINITION. The transform-selection mux TSM (40_element_datapath.md R82, R83) and the width resolution of pack
(43_composed_commands.md R112). -/

namespace Sys2Proof.Machine

/-- The sequence handed to the packer (R82, R113): T of the forward side. -/
def tsmForward (fam : Family) (chk : Bool) (S : List Word) : Except ErrCode (List Word) :=
  match fam with
  | .van => vanIdentity S
  | .m1 => m1Forward S
  | .d1 => .ok S
  | .d1z => deltaZzFwd chk S

/-- The estimate request of R82. -/
def tsmEstimate (fam : Family) (S T : List Word) : EstimateRequest :=
  match fam with
  | .van | .m1 | .d1z => .plain T
  | .d1 => .sorted (seedOf S) S

/-- The compress request of R82. -/
def tsmCompress (fam : Family) (S T : List Word) (bw : Nat) : CompressRequest :=
  match fam with
  | .van | .m1 | .d1z => .plain T bw
  | .d1 => .sorted (seedOf S) S bw

/-- SEED after a PACK (R113). -/
def tsmSeed (fam : Family) (S : List Word) : Word :=
  match fam with
  | .van | .m1 => 0#32
  | .d1 | .d1z => seedOf S

/-- The decompress request of R83. -/
def tsmDecompress (fam : Family) (init : Word) (P : List Byte) (bw : Nat) : DecompressRequest :=
  match fam with
  | .van | .m1 | .d1z => .plain P bw
  | .d1 => .sorted init P bw

/-- UP_COUNT of R119: the number of elements the inverse covers. -/
def upCount (bl count bw : Nat) : Except ErrCode Nat :=
  if count * 8 / bw > bl then .error .length else .ok (count * 8 / bw)

/-- The inverse applied to the first `n` elements, the rest as the packer gave them (R83, R120). -/
def inverseLeading (f : List Word → Except ErrCode (List Word)) (n : Nat) (V : List Word) :
    Except ErrCode (List Word) := do
  let xs ← f (V.take n)
  .ok (xs ++ V.drop n)

/-- OUT and nrec of R120, from the packer's values and count. -/
def tsmInverse (fam : Family) (chk : Bool) (bl : Nat) (init : Word) (V : List Word) (count bw : Nat) :
    Except ErrCode (List Word × Nat) :=
  match fam with
  | .van => .ok (V, 0)
  | .d1 => .ok (V, 0)
  | .m1 => do
    let n ← upCount bl count bw
    let out ← inverseLeading (m1Inverse chk) n V
    .ok (out, n)
  | .d1z => do
    let n ← upCount bl count bw
    let out ← inverseLeading (deltaZzInv chk init) n V
    .ok (out, n)

/-- RESOLVE_BW of 43_composed_commands.md R112: BW as given, or the checked estimate, at least 1. -/
def resolveBw (p : Params) (fam : Family) (bw : Nat) (S T : List Word) : Except ErrCode Nat :=
  if bw ≠ 0 then .ok bw
  else do
    let est ← requestEstimate p (tsmEstimate fam S T)
    .ok (max 1 est)

end Sys2Proof.Machine
end

