-- ==== Sys2Proof/Machine/Operands.lean ====
section
/-! DEFINITION. The operand forms of the commands: the source sequence, the destination of an into and of a self
form, the BM region, and the checks on them (20_memory.md R43; 41_transform_commands.md R84;
43_composed_commands.md R110, R111). All sums are exact, over Nat. -/

namespace Sys2Proof.Machine

/-- `dst` of R84: SRC_PTR for a self form, DST_PTR for an into form. -/
def State.xfDst (s : State) (self : Bool) : Nat :=
  if self then s.srcPtr.toNat else s.dstPtr.toNat

/-- S of 41_transform_commands.md: the LEN words from SRC_PTR on. -/
def State.xfSource (s : State) : List Word := s.smSeq s.srcPtr.toNat s.len.toNat

/-- S of 43_composed_commands.md: the BL words from SRC_PTR on. -/
def State.packSource (s : State) : List Word := s.smSeq s.srcPtr.toNat s.params.bl

/-- P of 43_composed_commands.md: the BYTE_CAP bytes from BYTE_PTR on. -/
def State.unpackRegion (s : State) : List Byte := s.bmSeq s.bytePtr.toNat s.byteCap.toNat

/-- XF_CHECKS of R84. -/
def xfChecks (self : Bool) (s : State) : Except ErrCode Unit :=
  if ¬ (1 ≤ s.len.toNat ∧ s.len.toNat ≤ s.params.bl) then .error .length
  else if s.srcPtr.toNat + s.len.toNat > s.params.smWords then .error .length
  else if s.xfDst self + s.len.toNat > s.params.smWords then .error .length
  else .ok ()

/-- PK_CHECKS of R110, where `ptr` is SRC_PTR for DIR = FWD and DST_PTR for DIR = INV. -/
def pkChecks (ptr : Word) (bw : Nat) (s : State) : Except ErrCode Unit :=
  if s.len.toNat ≠ s.params.bl then .error .length
  else if ptr.toNat + s.params.bl > s.params.smWords then .error .length
  else if s.bytePtr.toNat + s.byteCap.toNat > s.params.bmBytes then .error .length
  else if bw > 32 then .error .width
  else .ok ()

/-- The further check of an UNPACK (R111). -/
def upChecks (bw : Nat) : Except ErrCode Unit :=
  if bw = 0 then .error .zeroWidth else .ok ()

end Sys2Proof.Machine
end

