-- ==== Sys2Proof/Machine/Pack.lean ====
section
/-! DEFINITION. The four PACK commands (43_composed_commands.md R110, R112 to R118). -/

namespace Sys2Proof.Machine

/-- PK_CHECKS(FWD) and then PACK_BODY (R110, R113), up to the completion step. -/
def packCommand (fam : Family) (bw : Nat) (s : State) : Except ErrCode State := do
  pkChecks s.srcPtr bw s
  let T ← tsmForward fam s.params.arithCheck s.packSource
  let w ← resolveBw s.params fam bw s.packSource T
  let B ← requestCompress s.params s.byteCap.toNat (tsmCompress fam s.packSource T w)
  .ok ((s.bmWrite s.bytePtr.toNat B).setPackResults (BitVec.ofNat 32 B.length) (BitVec.ofNat 8 w)
    (tsmSeed fam s.packSource))

/-- PACK.VAN (R115). -/
def execPackVan (bw : Nat) (s : State) : Host.Outcome State Fault Refusal :=
  finish s (packCommand .van bw s)

/-- PACK.M1 (R116). -/
def execPackM1 (bw : Nat) (s : State) : Host.Outcome State Fault Refusal :=
  finish s (packCommand .m1 bw s)

/-- PACK.D1 (R117). -/
def execPackD1 (bw : Nat) (s : State) : Host.Outcome State Fault Refusal :=
  finish s (packCommand .d1 bw s)

/-- PACK.D1Z (R118). -/
def execPackD1z (bw : Nat) (s : State) : Host.Outcome State Fault Refusal :=
  finish s (packCommand .d1z bw s)

end Sys2Proof.Machine
end

