-- ==== Sys2Proof/Machine/Unpack.lean ====
section
/-! DEFINITION. The four UNPACK commands (43_composed_commands.md R110, R111, R119 to R124). -/

namespace Sys2Proof.Machine

/-- PK_CHECKS(INV), UP_CHECKS and then UNPACK_BODY (R110, R111, R120), up to the completion step. -/
def unpackCommand (fam : Family) (bw : Nat) (s : State) : Except ErrCode State := do
  pkChecks s.dstPtr bw s
  upChecks bw
  let r ← requestDecompress s.params s.byteCap.toNat (tsmDecompress fam s.init s.unpackRegion bw)
  let o ← tsmInverse fam s.params.arithCheck s.params.bl s.init r.1 r.2.toNat bw
  .ok ((s.smWrite s.dstPtr.toNat o.1).setUnpackResults r.2 (BitVec.ofNat 8 bw) (BitVec.ofNat 32 o.2))

/-- UNPACK.VAN (R121). -/
def execUnpackVan (bw : Nat) (s : State) : Host.Outcome State Fault Refusal :=
  finish s (unpackCommand .van bw s)

/-- UNPACK.M1 (R122). -/
def execUnpackM1 (bw : Nat) (s : State) : Host.Outcome State Fault Refusal :=
  finish s (unpackCommand .m1 bw s)

/-- UNPACK.D1 (R123). -/
def execUnpackD1 (bw : Nat) (s : State) : Host.Outcome State Fault Refusal :=
  finish s (unpackCommand .d1 bw s)

/-- UNPACK.D1Z (R124). -/
def execUnpackD1z (bw : Nat) (s : State) : Host.Outcome State Fault Refusal :=
  finish s (unpackCommand .d1z bw s)

end Sys2Proof.Machine
end

