-- ==== Sys2Proof/Machine/Xf.lean ====
section
/-! DEFINITION. The 12 transform commands (41_transform_commands.md R84 to R97). -/

namespace Sys2Proof.Machine

/-- XF_CHECKS and then XF_BODY (R84, R85), up to the completion step: `F` is the transform, `seed` what SEED
receives of the source. -/
def xfCommand (self : Bool) (F : List Word → Except ErrCode (List Word)) (seed : List Word → Word) (s : State) :
    Except ErrCode State := do
  xfChecks self s
  let T ← F s.xfSource
  .ok ((s.smWrite (s.xfDst self) T).setXfResults s.len (seed s.xfSource))

/-- SEED of a command that reports none (R85). -/
def noSeed (_ : List Word) : Word := 0#32

/-- XF.VAN.FWD (R86). -/
def execXfVanFwd (s : State) : Host.Outcome State Fault Refusal :=
  finish s (xfCommand false vanIdentity noSeed s)

/-- XF.VAN.FWD.SELF (R87). -/
def execXfVanFwdSelf (s : State) : Host.Outcome State Fault Refusal :=
  finish s (xfCommand true vanIdentity noSeed s)

/-- XF.VAN.INV (R88). -/
def execXfVanInv (s : State) : Host.Outcome State Fault Refusal :=
  finish s (xfCommand false vanIdentity noSeed s)

/-- XF.VAN.INV.SELF (R89). -/
def execXfVanInvSelf (s : State) : Host.Outcome State Fault Refusal :=
  finish s (xfCommand true vanIdentity noSeed s)

/-- XF.M1.FWD (R90). -/
def execXfM1Fwd (s : State) : Host.Outcome State Fault Refusal :=
  finish s (xfCommand false m1Forward noSeed s)

/-- XF.M1.FWD.SELF (R91). -/
def execXfM1FwdSelf (s : State) : Host.Outcome State Fault Refusal :=
  finish s (xfCommand true m1Forward noSeed s)

/-- XF.M1.INV (R92). -/
def execXfM1Inv (s : State) : Host.Outcome State Fault Refusal :=
  finish s (xfCommand false (m1Inverse s.params.arithCheck) noSeed s)

/-- XF.M1.INV.SELF (R93). -/
def execXfM1InvSelf (s : State) : Host.Outcome State Fault Refusal :=
  finish s (xfCommand true (m1Inverse s.params.arithCheck) noSeed s)

/-- XF.D1Z.FWD (R94). -/
def execXfD1zFwd (s : State) : Host.Outcome State Fault Refusal :=
  finish s (xfCommand false (deltaZzFwd s.params.arithCheck) seedOf s)

/-- XF.D1Z.FWD.SELF (R95). -/
def execXfD1zFwdSelf (s : State) : Host.Outcome State Fault Refusal :=
  finish s (xfCommand true (deltaZzFwd s.params.arithCheck) seedOf s)

/-- XF.D1Z.INV (R96). -/
def execXfD1zInv (s : State) : Host.Outcome State Fault Refusal :=
  finish s (xfCommand false (deltaZzInv s.params.arithCheck s.init) noSeed s)

/-- XF.D1Z.INV.SELF (R97). -/
def execXfD1zInvSelf (s : State) : Host.Outcome State Fault Refusal :=
  finish s (xfCommand true (deltaZzInv s.params.arithCheck s.init) noSeed s)

end Sys2Proof.Machine
end

