-- ==== Sys2Proof/Machine/Dispatch.lean ====
section
/-! DEFINITION. One arm per command: the completion step of the command on the state it finds. -/

namespace Sys2Proof.Machine

/-- The meaning of each command of 30_encoding.md R59. -/
def exec (i : Instr) (s : State) : Host.Outcome State Fault Refusal :=
  match i with
  | .xfVanFwd => Sys2Proof.Machine.execXfVanFwd s
  | .xfVanFwdSelf => Sys2Proof.Machine.execXfVanFwdSelf s
  | .xfVanInv => Sys2Proof.Machine.execXfVanInv s
  | .xfVanInvSelf => Sys2Proof.Machine.execXfVanInvSelf s
  | .xfM1Fwd => Sys2Proof.Machine.execXfM1Fwd s
  | .xfM1FwdSelf => Sys2Proof.Machine.execXfM1FwdSelf s
  | .xfM1Inv => Sys2Proof.Machine.execXfM1Inv s
  | .xfM1InvSelf => Sys2Proof.Machine.execXfM1InvSelf s
  | .xfD1zFwd => Sys2Proof.Machine.execXfD1zFwd s
  | .xfD1zFwdSelf => Sys2Proof.Machine.execXfD1zFwdSelf s
  | .xfD1zInv => Sys2Proof.Machine.execXfD1zInv s
  | .xfD1zInvSelf => Sys2Proof.Machine.execXfD1zInvSelf s
  | .packVan bw => Sys2Proof.Machine.execPackVan bw s
  | .packM1 bw => Sys2Proof.Machine.execPackM1 bw s
  | .packD1 bw => Sys2Proof.Machine.execPackD1 bw s
  | .packD1z bw => Sys2Proof.Machine.execPackD1z bw s
  | .unpackVan bw => Sys2Proof.Machine.execUnpackVan bw s
  | .unpackM1 bw => Sys2Proof.Machine.execUnpackM1 bw s
  | .unpackD1 bw => Sys2Proof.Machine.execUnpackD1 bw s
  | .unpackD1z bw => Sys2Proof.Machine.execUnpackD1z bw s

end Sys2Proof.Machine
end

