-- ==== Sys2Proof/Machine/Sequencer.lean ====
section
/-! DEFINITION. The TU's sequencing controller (00_scope.md R2, 10_state.md R17, R32). -/

namespace Sys2Proof.Machine

/-- The running command takes its completion step: CMD is decoded, an illegal one raises ERR_ILLEGAL
(10_state.md R17, 30_encoding.md R60), a legal one runs. -/
def runCommand (s : State) : Host.Outcome State Fault Refusal :=
  match decode s.cmd with
  | some i => exec i s
  | none => finish s (.error .illegal)

/-- A turn of the TU: in PHASE RUN the command completes (70_reset_and_hazards.md R157; assumption log 5), in PHASE
IDLE nothing happens (60_exceptions.md R143). -/
def tuTurn (s : State) : Host.Outcome State Fault Refusal :=
  match s.phase with
  | .idle => .next s
  | .run => runCommand s

end Sys2Proof.Machine
end

