-- ==== Sys2Proof/Machine/Step.lean ====
section
/-! DEFINITION. One step: the next pending input, or a turn of the TU where none is pending (00_scope.md R6). -/

namespace Sys2Proof.Machine

/-- The state with its pending inputs replaced. -/
def State.setInputs (s : State) (is : List Input) : State := { s with inputs := is }

/-- One step of the machine (assumption log 4). -/
def step (s : State) : Host.Outcome State Fault Refusal :=
  match s.inputs with
  | [] => tuTurn s
  | .tuTurn :: rest => tuTurn (s.setInputs rest)
  | .access a :: rest => hostAccess a (s.setInputs rest)
  | .resetLine asserted :: rest => .next ((s.setInputs rest).setResetLine asserted)

/-- The state in which the very next step runs the command of word `w`: the word is in CMD, a GO has been
accepted, reset is released, and the TU's turn is next (10_state.md R17, R21; assumption log 11). -/
def State.withFetchWord (s : State) (nbits w : Nat) : State :=
  { s.acceptGo with
    cmd := BitVec.ofNat 32 (w % 2 ^ nbits)
    resetLine := false
    inputs := .tuTurn :: s.inputs }

end Sys2Proof.Machine
end

