-- ==== Sys2Proof/Safety.lean ====
section
/-! DEFINITION. The terms the claims use: the machine's invariant, which inputs are legal, what a command leaves
unchanged, what a completed command holds, the operands' conditions, and the assumptions on an External Packer. -/

namespace Sys2Proof.Machine

/-! ### Parameters -/

/-- The legal values of the build parameters (00_scope.md R7). -/
def Params.legal (p : Params) : Prop :=
  1 ≤ p.bl ∧ p.bl ≤ 2 ^ 24 - 1 ∧ p.bl % 8 = 0 ∧ p.bl ≤ p.smWords ∧ 1 ≤ p.bmBytes

/-! ### The invariant -/

/-- The result registers read 0 (10_state.md R21, R23 to R26). -/
def State.resultsZero (s : State) : Prop :=
  s.result = 0#32 ∧ s.resolvedBw = 0#8 ∧ s.nRecovered = 0#32 ∧ s.seed = 0#32

/-- What holds in every state the machine reaches. -/
structure Inv (s : State) : Prop where
  /-- PHASE = RUN exactly when STATUS.BUSY = 1 (10_state.md R32). -/
  phaseRun : s.phase = .run ↔ s.busy = true
  /-- BUSY = 1 ⇒ DONE = 0 (R22). -/
  busyNotDone : s.busy = true → s.done = false
  /-- While BUSY = 1 the result registers read 0, and ERR is 0 (R21, R30). -/
  busyClear : s.busy = true → s.err = .none ∧ s.resultsZero
  /-- An error code stands only beside DONE, and after an error the result registers hold 0 (R22 to R26). -/
  errClear : s.err ≠ .none → s.done = true ∧ s.resultsZero
  /-- While reset is asserted no command runs (70_reset_and_hazards.md R146, R148). -/
  resetIdle : s.resetLine = true → s.busy = false
  /-- RESOLVED_BW is a width in [0, 32] (R24, 43_composed_commands.md R112). -/
  width : s.resolvedBw.toNat ≤ 32
  /-- N_RECOVERED is at most BL (43_composed_commands.md R119). -/
  recovered : s.nRecovered.toNat ≤ s.params.bl
  /-- SCR has BL words (R33). -/
  scrLength : s.scr.length = s.params.bl
  /-- 0 <= IDX <= BL (R35). -/
  idxRange : s.idx ≤ s.params.bl
  /-- SM is in canonical form and lists no index at or past SM_WORDS (20_memory.md R37, R43). -/
  smForm : Memory.wf s.params.smInitAt s.sm = true ∧ Memory.within s.params.smWords s.sm = true
  /-- BM is in canonical form and lists no index at or past BM_BYTES (R38, R43). -/
  bmForm : Memory.wf s.params.bmInitAt s.bm = true ∧ Memory.within s.params.bmBytes s.bm = true

/-! ### Legal inputs -/

/-- The accesses the block defines (20_memory.md R41, 10_state.md R28). -/
def HostAccess.defined (p : Params) : HostAccess → Prop
  | .regRead addr => ∃ r, addr = p.regAddr r
  | .regWrite addr _ => ∃ r, addr = p.regAddr r
  | .smRead i => i < p.smWords
  | .smWrite i _ => i < p.smWords
  | .bmRead j => j < p.bmBytes
  | .bmWrite j _ => j < p.bmBytes
  | .otherWidth _ _ => False

/-- The next input is a turn of the TU: it is at the head of the inputs, or none is pending. -/
def State.tuNext (s : State) (rest : List Input) : Prop :=
  s.inputs = .tuTurn :: rest ∨ (s.inputs = [] ∧ rest = [])

/-- A step that goes on. -/
def stepsOn (s : State) : Prop := ∃ t, step s = .next t

/-! ### Frames -/

/-- What no command writes: the build, the operand registers, the reset line, and the model's pending inputs and
last reply. -/
structure SameSetup (s t : State) : Prop where
  params : t.params = s.params
  cmd : t.cmd = s.cmd
  len : t.len = s.len
  srcPtr : t.srcPtr = s.srcPtr
  dstPtr : t.dstPtr = s.dstPtr
  bytePtr : t.bytePtr = s.bytePtr
  byteCap : t.byteCap = s.byteCap
  init : t.init = s.init
  resetLine : t.resetLine = s.resetLine
  inputs : t.inputs = s.inputs
  reply : t.reply = s.reply

/-- Every word of SM reads as before. -/
def SmUnchanged (s t : State) : Prop := ∀ i, t.smRead i = s.smRead i

/-- Every byte of BM reads as before. -/
def BmUnchanged (s t : State) : Prop := ∀ j, t.bmRead j = s.bmRead j

/-- SM holds `xs` from index `p` on, and every other word reads as before. -/
def SmHolds (s t : State) (p : Nat) (xs : List Word) : Prop :=
  (∀ k, k < xs.length → t.smRead (p + k) = xs.getD k 0#32) ∧
  (∀ i, i < p ∨ p + xs.length ≤ i → t.smRead i = s.smRead i)

/-- BM holds `bs` from index `p` on, and every other byte reads as before. -/
def BmHolds (s t : State) (p : Nat) (bs : List Byte) : Prop :=
  (∀ k, k < bs.length → t.bmRead (p + k) = bs.getD k 0#8) ∧
  (∀ j, j < p ∨ p + bs.length ≤ j → t.bmRead j = s.bmRead j)

/-- BUSY = 0, DONE = 1, ERR = `c`, PHASE = IDLE (60_exceptions.md R130, R131). -/
structure Completed (t : State) (c : ErrCode) : Prop where
  busy : t.busy = false
  done : t.done = true
  err : t.err = c
  phase : t.phase = .idle

/-- A transform command that succeeded from `s` to `t`: `T` stands at the destination, RESULT is LEN, SEED is `seed`,
and nothing else changed but the unobservable SCR, PRE_VAL and IDX (41_transform_commands.md R85). -/
structure XfDone (self : Bool) (s t : State) (T : List Word) (seed : Word) : Prop where
  completed : Completed t .none
  setup : SameSetup s t
  sm : SmHolds s t (s.xfDst self) T
  bm : BmUnchanged s t
  result : t.result = s.len
  seedReg : t.seed = seed
  resolvedBw : t.resolvedBw = s.resolvedBw
  nRecovered : t.nRecovered = s.nRecovered

/-- A PACK that succeeded from `s` to `t`: the bytes `B` stand at BYTE_PTR, the width was `w`
(43_composed_commands.md R113, R114). -/
structure PackDone (s t : State) (B : List Byte) (w : Nat) (seed : Word) : Prop where
  completed : Completed t .none
  setup : SameSetup s t
  sm : SmUnchanged s t
  bm : BmHolds s t s.bytePtr.toNat B
  result : t.result.toNat = B.length
  resolvedBw : t.resolvedBw.toNat = w
  seedReg : t.seed = seed
  nRecovered : t.nRecovered = s.nRecovered

/-- An UNPACK that succeeded from `s` to `t`: `out` stands at DST_PTR, the packer counted `count`, the width was `bw`,
the inverse covered `n` elements (43_composed_commands.md R120). -/
structure UnpackDone (s t : State) (out : List Word) (count : Word) (bw n : Nat) : Prop where
  completed : Completed t .none
  setup : SameSetup s t
  sm : SmHolds s t s.dstPtr.toNat out
  bm : BmUnchanged s t
  result : t.result = count
  resolvedBw : t.resolvedBw.toNat = bw
  nRecovered : t.nRecovered.toNat = n
  seedReg : t.seed = s.seed

/-! ### Conditions on the operands -/

/-- XF_CHECKS of 41_transform_commands.md R84 pass. -/
def XfOk (self : Bool) (s : State) : Prop :=
  1 ≤ s.len.toNat ∧ s.len.toNat ≤ s.params.bl ∧
  s.srcPtr.toNat + s.len.toNat ≤ s.params.smWords ∧ s.xfDst self + s.len.toNat ≤ s.params.smWords

/-- The length and bounds checks of 43_composed_commands.md R110 pass; `ptr` is SRC_PTR or DST_PTR. -/
def PkFits (ptr : Word) (s : State) : Prop :=
  s.len.toNat = s.params.bl ∧ ptr.toNat + s.params.bl ≤ s.params.smWords ∧
  s.bytePtr.toNat + s.byteCap.toNat ≤ s.params.bmBytes

/-- The width of a PACK resolves to `w` (43_composed_commands.md R112), where `est` is the packer's estimate. -/
def WidthIs (est : Byte) (bw w : Nat) : Prop :=
  if bw = 0 then est.toNat ≤ 32 ∧ w = max 1 est.toNat else bw ≤ 32 ∧ w = bw

/-- The zigzag domain of 40_element_datapath.md R73. -/
abbrev inZigzagDomain (pre cur : Word) : Prop :=
  -2 ^ 31 ≤ (cur.toNat : Int) - pre.toNat ∧ (cur.toNat : Int) - pre.toNat ≤ 2 ^ 31 - 1

/-- How many of the neighbouring pairs (S[j], S[j+1]) with j < i lie outside the zigzag domain. -/
def offDomainPairs (S : List Word) (i : Nat) : Nat :=
  ((List.range i).filter fun j => decide (¬ inZigzagDomain (S.getD j 0#32) (S.getD (j + 1) 0#32))).length

/-- Every pair of neighbours, `pre` before the first, lies in the zigzag domain. -/
def pairsInDomain (pre : Word) : List Word → Prop
  | [] => True
  | x :: xs => inZigzagDomain pre x ∧ pairsInDomain x xs

/-- PRE_VAL before element `k` of the inverse delta transform of `C` from `init` on, with wrapping arithmetic
(40_element_datapath.md R76): `init`, and then each value decoded by `ZZ_DEC`. Up to the first range event the
range-checked arithmetic has the same values. -/
def decodedBefore (init : Word) (C : List Word) : Nat → Word
  | 0 => init
  | k + 1 => (zzDec false (decodedBefore init C k) (C.getD k 0#32)).toOption.getD 0#32

/-- `ZZ_DEC` has a range event at some element of `C`, on the values decoded before it from `init` on (R72, R76). -/
abbrev decodeRangeEvent (init : Word) (C : List Word) : Prop :=
  ∃ k, k < C.length ∧ zzDec true (decodedBefore init C k) (C.getD k 0#32) = .error .range

/-- The sequence is non-decreasing, and `pre` is at most its first element (42_packer_interface.md R106, R108). -/
def sortedFrom (pre : Word) : List Word → Prop
  | [] => True
  | x :: xs => pre ≤ x ∧ sortedFrom x xs

/-- Every difference to the element before, `pre` before the first, is less than 2^b. -/
def diffsBelow (b : Nat) (pre : Word) : List Word → Prop
  | [] => True
  | x :: xs => (x.toNat : Int) - pre.toNat < 2 ^ b ∧ diffsBelow b x xs

/-- Every value is less than 2^b. -/
def valuesBelow (b : Nat) (v : List Word) : Prop := ∀ x ∈ v, x.toNat < 2 ^ b

/-! ### What the laws assume of an External Packer (42_packer_interface.md R105 to R109) -/

/-- EP-EST (R105): the estimate is the least width that holds every value. -/
def EpEst (bl : Nat) (ep : Packer) : Prop :=
  ∀ v : List Word, v.length = bl →
    (ep.estimate v).toNat ≤ 32 ∧ valuesBelow (ep.estimate v).toNat v ∧
    ∀ b, b ≤ 32 → valuesBelow b v → (ep.estimate v).toNat ≤ b

/-- EP-EST-S (R106): the sorted estimate is the least width that holds every difference. -/
def EpEstS (bl : Nat) (ep : Packer) : Prop :=
  ∀ (init : Word) (v : List Word), v.length = bl → sortedFrom init v →
    (ep.estimateSorted init v).toNat ≤ 32 ∧ diffsBelow (ep.estimateSorted init v).toNat init v ∧
    ∀ b, b ≤ 32 → diffsBelow b init v → (ep.estimateSorted init v).toNat ≤ b

/-- EP-RT (R107): decompress inverts compress, from any byte list that begins with the compressed bytes. -/
def EpRt (bl : Nat) (ep : Packer) : Prop :=
  ∀ (b : Nat) (v : List Word) (P : List Byte), 1 ≤ b → b ≤ 32 → v.length = bl → valuesBelow b v →
    ep.compress v b <+: P →
    blockValues bl (ep.decompress P b).1 = v ∧ (ep.decompress P b).2.toNat = (ep.compress v b).length

/-- EP-RT-S (R108): the same for the sorted functions, on non-decreasing input. -/
def EpRtS (bl : Nat) (ep : Packer) : Prop :=
  ∀ (b : Nat) (init : Word) (v : List Word) (P : List Byte), 1 ≤ b → b ≤ 32 → v.length = bl →
    sortedFrom init v → diffsBelow b init v → ep.compressSorted init v b <+: P →
    blockValues bl (ep.decompressSorted init P b).1 = v ∧ (ep.decompressSorted init P b).2.toNat = bl

/-- EP-LEN (R109): a compressed block of width `b` has BL × b ÷ 8 bytes. -/
def EpLen (bl : Nat) (ep : Packer) : Prop :=
  ∀ b, 1 ≤ b → b ≤ 32 →
    (∀ v : List Word, v.length = bl → (ep.compress v b).length = bl * b / 8) ∧
    (∀ (init : Word) (v : List Word), v.length = bl → (ep.compressSorted init v b).length = bl * b / 8)

/-- The five assumptions together. -/
structure EpMeets (bl : Nat) (ep : Packer) : Prop where
  est : EpEst bl ep
  estS : EpEstS bl ep
  rt : EpRt bl ep
  rtS : EpRtS bl ep
  len : EpLen bl ep

/-! ### An UNPACK that follows a PACK (43_composed_commands.md R125) -/

/-- `u` is a state in which an UNPACK of what a PACK from `s` left in `t` can run: the same build and block length,
the same byte region with its compressed bytes kept, and a destination inside SM. -/
structure UnpackAfter (s t u : State) : Prop where
  params : u.params = s.params
  len : u.len = s.len
  bytePtr : u.bytePtr = s.bytePtr
  byteCap : u.byteCap = s.byteCap
  dst : u.dstPtr.toNat + u.params.bl ≤ u.params.smWords
  bytes : ∀ k, k < t.result.toNat → u.bmRead (s.bytePtr.toNat + k) = t.bmRead (s.bytePtr.toNat + k)

/-- The UNPACK from `u` by `i` succeeds and writes the block `S` at DST_PTR. -/
def UnpacksTo (i : Instr) (u : State) (S : List Word) : Prop :=
  ∃ v, exec i u = .next v ∧ v.err = .none ∧ v.smSeq u.dstPtr.toNat u.params.bl = S

end Sys2Proof.Machine
end

