-- ==== Sys2Proof/Certificates/Slice0/Obligations.lean ====
section
/-! DEFINITION. The statements for the provers. Each says in its docstring which rule of spec/ it formalises, or
which sections it rests on. A premise `legal`, `Inv` or a condition on the operands is a property of the state
alone; the witnesses that meet the premises are in Tests/Slice0.lean. -/

open Sys2Proof Sys2Proof.Machine

/-! ### Encoding (30_encoding.md) -/

/-- R59, R61: decoding the word of a well-formed command gives the command, with every BW 0..255. -/
def Obligations.DecodeInvertsEncode : Prop :=
  ∀ i : Instr, i.wellFormed = true → decode (encode i) = some i

/-- R59, R61: a word the decoder accepts is the word of the well-formed command it gives. -/
def Obligations.LegalWordsAreEncodings : Prop :=
  ∀ (w : Word) (i : Instr), decode w = some i → i.wellFormed = true ∧ encode i = w

/-- R60: the four kinds of illegal word, and what an accepted GO with one leads to: the turn completes with
ERR_ILLEGAL, whatever the operands hold. That CMD is decoded at the TU's turn, the one turn a command takes, is the
model's choice (assumption log 5); the result registers keep the 0 of the accepted GO (assumption log 12). -/
def Obligations.IllegalWordsCompleteWithErrIllegal : Prop :=
  (∀ w : Word, decode w = none ↔
    (w.extractLsb' 16 16 ≠ 0#16 ∨ w.extractLsb' 5 3 ≠ 0#3) ∨
    (w.extractLsb' 3 1 = 0#1 ∧ w.extractLsb' 0 2 = 2#2) ∨
    (w.extractLsb' 3 1 = 0#1 ∧ w.extractLsb' 8 8 ≠ 0#8) ∨
    (w.extractLsb' 3 1 = 1#1 ∧ w.extractLsb' 4 1 = 1#1)) ∧
  (∀ s : State, s.phase = .run → decode s.cmd = none →
    ∃ t, tuTurn s = .next t ∧ Completed t .illegal ∧ SameSetup s t ∧ SmUnchanged s t ∧ BmUnchanged s t ∧
      t.result = s.result ∧ t.resolvedBw = s.resolvedBw ∧ t.nRecovered = s.nRecovered ∧ t.seed = s.seed)

/-- 95_test_vectors.md section 3: words written out decode to their commands. -/
def Obligations.SampleWordsDecode : Prop :=
  decode 0x00000000#32 = some .xfVanFwd ∧ decode 0x00000017#32 = some .xfD1zInvSelf ∧
  decode 0x00000011#32 = some .xfM1FwdSelf ∧ decode 0x0000000B#32 = some (.packD1z 0) ∧
  decode 0x0000030D#32 = some (.unpackM1 3) ∧ decode 0x0000FF0C#32 = some (.unpackVan 255) ∧
  decode 0x00000016#32 = none ∧ decode 0x00000518#32 = none

/-! ### The element datapath (40_element_datapath.md) -/

/-- R66: `fit32` in range, wrapping, and range-checked. -/
def Obligations.Fit32WrapsOrChecks : Prop :=
  ∀ v : Int,
    ((0 ≤ v ∧ v ≤ 2 ^ 32 - 1) → ∀ chk, ∃ w, fit32 chk v = .ok w ∧ (w.toNat : Int) = v) ∧
    (¬ (0 ≤ v ∧ v ≤ 2 ^ 32 - 1) →
      (∃ w, fit32 false v = .ok w ∧ (w.toNat : Int) = v % 2 ^ 32) ∧ fit32 true v = .error .range)

/-- R70: the offset bijection in both directions, and no forward of 0. -/
def Obligations.OffsetBijection : Prop :=
  (∀ (chk : Bool) (x : Word), 1 ≤ x.toNat → ofsInv chk (ofsFwd x) = .ok x) ∧
  (∀ (chk : Bool) (y : Word), y.toNat ≤ 0xFFFFFFFE → ∃ z, ofsInv chk y = .ok z ∧ ofsFwd z = y) ∧
  (∀ S : List Word, 0#32 ∈ S → m1Forward S = .error .invalidValue)

/-- R69: `OFS_INV` and its one range event. -/
def Obligations.OffsetInverseRangeEvent : Prop :=
  (∀ (chk : Bool) (y : Word), y ≠ 0xFFFFFFFF#32 → ofsInv chk y = .ok (y + 1#32)) ∧
  ofsInv false 0xFFFFFFFF#32 = .ok 0#32 ∧ ofsInv true 0xFFFFFFFF#32 = .error .range

/-- R71: the code of `ZZ_ENC` modulo 2^32, and the two cases of a range event. -/
def Obligations.ZigzagEncodeFormula : Prop :=
  ∀ pre cur : Word,
    (cur.toNat < pre.toNat → ∃ w, zzEnc false pre cur = .ok w ∧
      (w.toNat : Int) = (2 * ((pre.toNat : Int) - cur.toNat) - 1) % 2 ^ 32) ∧
    (pre.toNat ≤ cur.toNat → ∃ w, zzEnc false pre cur = .ok w ∧
      (w.toNat : Int) = (2 * ((cur.toNat : Int) - pre.toNat)) % 2 ^ 32) ∧
    (zzEnc true pre cur = .error .range ↔
      (cur.toNat < pre.toNat ∧ 2 ^ 31 < pre.toNat - cur.toNat) ∨
      (pre.toNat ≤ cur.toNat ∧ 2 ^ 31 ≤ cur.toNat - pre.toNat)) ∧
    (zzEnc true pre cur ≠ .error .range → zzEnc true pre cur = zzEnc false pre cur)

/-- R72: the value of `ZZ_DEC` modulo 2^32, and the two cases of a range event. -/
def Obligations.ZigzagDecodeFormula : Prop :=
  ∀ pre code : Word,
    (code.toNat % 2 = 1 → ∃ w, zzDec false pre code = .ok w ∧
      (w.toNat : Int) = ((pre.toNat : Int) - (code.toNat / 2 : Nat) - 1) % 2 ^ 32) ∧
    (code.toNat % 2 = 0 → ∃ w, zzDec false pre code = .ok w ∧
      (w.toNat : Int) = ((pre.toNat : Int) + (code.toNat / 2 : Nat)) % 2 ^ 32) ∧
    (zzDec true pre code = .error .range ↔
      (code.toNat % 2 = 1 ∧ pre.toNat < code.toNat / 2 + 1) ∨
      (code.toNat % 2 = 0 ∧ 2 ^ 32 - 1 < pre.toNat + code.toNat / 2)) ∧
    (zzDec true pre code ≠ .error .range → zzDec true pre code = zzDec false pre code)

/-- R73: on the zigzag domain the coder and decoder round-trip with no range event and the code is the zigzag image
of the signed difference; off it the coder raises ERR_RANGE or the round trip flips bit 31. -/
def Obligations.ZigzagDomainRoundTrip : Prop :=
  (∀ (chk : Bool) (pre cur : Word), inZigzagDomain pre cur →
    ∃ code, zzEnc chk pre cur = .ok code ∧ zzDec chk pre code = .ok cur ∧
      (0 ≤ (cur.toNat : Int) - pre.toNat → (code.toNat : Int) = 2 * ((cur.toNat : Int) - pre.toNat)) ∧
      ((cur.toNat : Int) - pre.toNat < 0 → (code.toNat : Int) = -2 * ((cur.toNat : Int) - pre.toNat) - 1)) ∧
  (∀ pre cur : Word, ¬ inZigzagDomain pre cur → zzEnc true pre cur = .error .range) ∧
  (∀ pre cur : Word, ¬ inZigzagDomain pre cur →
    ∃ code, zzEnc false pre cur = .ok code ∧ zzDec false pre code = .ok (cur ^^^ 0x80000000#32)) ∧
  zzEnc false 0#32 0x80000000#32 = .ok 0#32 ∧ zzDec false 0#32 0#32 = .ok 0#32

/-- R75: the first code of a forward delta transform is 0, for every input. -/
def Obligations.FirstCodeIsZero : Prop :=
  ∀ (chk : Bool) (x : Word) (rest C : List Word),
    deltaZzFwd chk (x :: rest) = .ok C → ∃ codes, C = 0#32 :: codes ∧ codes.length = rest.length

/-- R77: decoding with the seed gives the sequence back, with no range event, where every pair of neighbours lies
in the zigzag domain. -/
def Obligations.DeltaRoundTripWithSeed : Prop :=
  ∀ (chk : Bool) (S : List Word), S ≠ [] → pairsInDomain (seedOf S) S →
    ∃ C, deltaZzFwd chk S = .ok C ∧ deltaZzInv chk (seedOf S) C = .ok S

/-- R78: with ARITH_CHECK = 0 the decoder is shift-equivariant; a wrong Initial Value shifts every element by one
constant, and each pair outside the zigzag domain adds 2^31 from its element on. Neither is detected. -/
def Obligations.WrongInitialValueShifts : Prop :=
  (∀ pre k code v : Word, zzDec false pre code = .ok v → zzDec false (pre + k) code = .ok (v + k)) ∧
  (∀ (S : List Word) (init : Word), S ≠ [] →
    ∃ C V, deltaZzFwd false S = .ok C ∧ deltaZzInv false init C = .ok V ∧ V.length = S.length ∧
      ∀ i, i < S.length →
        V.getD i 0#32 =
          S.getD i 0#32 + (init - seedOf S) + BitVec.ofNat 32 (2 ^ 31 * offDomainPairs S i))

/-! ### Transform commands (41_transform_commands.md) -/

/-- R86 to R89: a vanilla transform copies the source to the destination, and what it leaves unchanged. -/
def Obligations.XfVanillaCopiesSource : Prop :=
  ∀ (s : State) (i : Instr) (self : Bool),
    (i, self) ∈ [(Instr.xfVanFwd, false), (.xfVanFwdSelf, true), (.xfVanInv, false), (.xfVanInvSelf, true)] →
    XfOk self s →
    ∃ t, exec i s = .next t ∧ XfDone self s t s.xfSource 0#32

/-- R90, R91: the forward offset transform subtracts 1 from every element of a source without a 0. -/
def Obligations.XfM1ForwardSubtractsOne : Prop :=
  ∀ (s : State) (i : Instr) (self : Bool),
    (i, self) ∈ [(Instr.xfM1Fwd, false), (.xfM1FwdSelf, true)] →
    XfOk self s → 0#32 ∉ s.xfSource →
    ∃ t, exec i s = .next t ∧ XfDone self s t (s.xfSource.map (fun x => x - 1#32)) 0#32

/-- R92, R93: the inverse offset transform adds 1 modulo 2^32 to every element; with ARITH_CHECK = 1 it does so
where no element is 0xFFFFFFFF. -/
def Obligations.XfM1InverseAddsOne : Prop :=
  ∀ (s : State) (i : Instr) (self : Bool),
    (i, self) ∈ [(Instr.xfM1Inv, false), (.xfM1InvSelf, true)] →
    XfOk self s → (s.params.arithCheck = false ∨ 0xFFFFFFFF#32 ∉ s.xfSource) →
    ∃ t, exec i s = .next t ∧ XfDone self s t (s.xfSource.map (fun x => x + 1#32)) 0#32

/-- R94, R95: the forward delta+zigzag transform writes the code of each element against the one before it, the
first against itself, and reports the seed. With ARITH_CHECK = 1 it does so where every pair of neighbours lies in
the zigzag domain. -/
def Obligations.XfD1zForwardEncodesDeltas : Prop :=
  ∀ (s : State) (i : Instr) (self : Bool),
    (i, self) ∈ [(Instr.xfD1zFwd, false), (.xfD1zFwdSelf, true)] →
    XfOk self s → (s.params.arithCheck = false ∨ pairsInDomain (s.smRead s.srcPtr.toNat) s.xfSource) →
    ∃ t C, exec i s = .next t ∧ XfDone self s t C (s.smRead s.srcPtr.toNat) ∧ C.length = s.len.toNat ∧
      ∀ k, k < s.len.toNat →
        zzEnc s.params.arithCheck (s.smRead (s.srcPtr.toNat + (k - 1))) (s.smRead (s.srcPtr.toNat + k)) =
          .ok (C.getD k 0#32)

/-- R96, R97: the inverse delta+zigzag transform decodes each code against the value decoded before it, the first
against INIT. With ARITH_CHECK = 1 it does so where `ZZ_DEC` has a range event at no element. -/
def Obligations.XfD1zInverseDecodesDeltas : Prop :=
  ∀ (s : State) (i : Instr) (self : Bool),
    (i, self) ∈ [(Instr.xfD1zInv, false), (.xfD1zInvSelf, true)] →
    XfOk self s → (s.params.arithCheck = false ∨ ¬ decodeRangeEvent s.init s.xfSource) →
    ∃ t V, exec i s = .next t ∧ XfDone self s t V 0#32 ∧ V.length = s.len.toNat ∧
      ∀ k, k < s.len.toNat →
        zzDec s.params.arithCheck (if k = 0 then s.init else V.getD (k - 1) 0#32)
          (s.smRead (s.srcPtr.toNat + k)) = .ok (V.getD k 0#32)

/-- R84: for each of the 12 transform commands, ERR_LENGTH is raised exactly where LEN is not in 1..BL, or the
source or the destination region does not lie in SM; then nothing else happens. -/
def Obligations.XfLengthChecks : Prop :=
  ∀ (s : State) (i : Instr) (self : Bool),
    (i, self) ∈ [(Instr.xfVanFwd, false), (.xfVanFwdSelf, true), (.xfVanInv, false), (.xfVanInvSelf, true),
      (.xfM1Fwd, false), (.xfM1FwdSelf, true), (.xfM1Inv, false), (.xfM1InvSelf, true),
      (.xfD1zFwd, false), (.xfD1zFwdSelf, true), (.xfD1zInv, false), (.xfD1zInvSelf, true)] →
    ∃ t, exec i s = .next t ∧
      (t.err = .length ↔
        ¬ (1 ≤ s.len.toNat ∧ s.len.toNat ≤ s.params.bl) ∨
        s.srcPtr.toNat + s.len.toNat > s.params.smWords ∨
        (if self then s.srcPtr.toNat else s.dstPtr.toNat) + s.len.toNat > s.params.smWords) ∧
      (t.err = .length → SameSetup s t ∧ SmUnchanged s t ∧ BmUnchanged s t ∧
        t.result = s.result ∧ t.resolvedBw = s.resolvedBw ∧ t.nRecovered = s.nRecovered ∧ t.seed = s.seed)

/-- R90, R91: a 0 anywhere in the source ends the forward offset transform with ERR_INVALID_VALUE, whatever
ARITH_CHECK is, and SM is unchanged. -/
def Obligations.XfM1ForwardRejectsZero : Prop :=
  ∀ (s : State) (i : Instr) (self : Bool),
    (i, self) ∈ [(Instr.xfM1Fwd, false), (.xfM1FwdSelf, true)] →
    XfOk self s → (∃ k, k < s.len.toNat ∧ s.smRead (s.srcPtr.toNat + k) = 0#32) →
    ∃ t, exec i s = .next t ∧ Completed t .invalidValue ∧ SameSetup s t ∧ SmUnchanged s t ∧ BmUnchanged s t

/-- R92 to R97 with ARITH_CHECK = 1: the range events that end a transform command with ERR_RANGE, SM unchanged. For
the d1z inverses it is a range event of `ZZ_DEC` at some element, on the values decoded before it (R72, R76). -/
def Obligations.XfRangeErrors : Prop :=
  ∀ (s : State) (self : Bool), XfOk self s → s.params.arithCheck = true →
    (∀ i, (i, self) ∈ [(Instr.xfM1Inv, false), (.xfM1InvSelf, true)] → 0xFFFFFFFF#32 ∈ s.xfSource →
      ∃ t, exec i s = .next t ∧ Completed t .range ∧ SameSetup s t ∧ SmUnchanged s t ∧ BmUnchanged s t) ∧
    (∀ i, (i, self) ∈ [(Instr.xfD1zFwd, false), (.xfD1zFwdSelf, true)] →
      (∃ k, k + 1 < s.len.toNat ∧ ¬ inZigzagDomain (s.smRead (s.srcPtr.toNat + k))
        (s.smRead (s.srcPtr.toNat + (k + 1)))) →
      ∃ t, exec i s = .next t ∧ Completed t .range ∧ SameSetup s t ∧ SmUnchanged s t ∧ BmUnchanged s t) ∧
    (∀ i, (i, self) ∈ [(Instr.xfD1zInv, false), (.xfD1zInvSelf, true)] →
      decodeRangeEvent s.init s.xfSource →
      ∃ t, exec i s = .next t ∧ Completed t .range ∧ SameSetup s t ∧ SmUnchanged s t ∧ BmUnchanged s t)

/-! ### Pack commands (43_composed_commands.md section 2) -/

/-- R115: PACK.VAN hands the source to the packer, at BW or at the packer's estimate. -/
def Obligations.PackVanWritesBlock : Prop :=
  ∀ (s : State) (bw w : Nat) (B : List Byte), PkFits s.srcPtr s →
    WidthIs (s.params.ep.estimate s.packSource) bw w →
    B = s.params.ep.compress s.packSource w → B.length ≤ s.byteCap.toNat →
    ∃ t, exec (.packVan bw) s = .next t ∧ PackDone s t B w 0#32

/-- R116: PACK.M1 hands the source less 1 to the packer, whose estimate sees the same. -/
def Obligations.PackM1WritesBlock : Prop :=
  ∀ (s : State) (bw w : Nat) (T : List Word) (B : List Byte), PkFits s.srcPtr s →
    0#32 ∉ s.packSource → T = s.packSource.map (fun x => x - 1#32) →
    WidthIs (s.params.ep.estimate T) bw w →
    B = s.params.ep.compress T w → B.length ≤ s.byteCap.toNat →
    ∃ t, exec (.packM1 bw) s = .next t ∧ PackDone s t B w 0#32

/-- R117: PACK.D1 hands the source itself to the packer's sorted functions, seeded with element 0, and reports the
seed. The source is not checked to be sorted. BL is positive, as R7 says. -/
def Obligations.PackD1WritesBlock : Prop :=
  ∀ (s : State) (bw w : Nat) (B : List Byte), 1 ≤ s.params.bl → PkFits s.srcPtr s →
    WidthIs (s.params.ep.estimateSorted (s.smRead s.srcPtr.toNat) s.packSource) bw w →
    B = s.params.ep.compressSorted (s.smRead s.srcPtr.toNat) s.packSource w → B.length ≤ s.byteCap.toNat →
    ∃ t, exec (.packD1 bw) s = .next t ∧ PackDone s t B w (s.smRead s.srcPtr.toNat)

/-- R118: PACK.D1Z hands the codes of the source to the packer, whose estimate sees the codes, and reports the seed.
BL is positive, as R7 says. -/
def Obligations.PackD1zWritesBlock : Prop :=
  ∀ (s : State) (bw w : Nat) (C : List Word) (B : List Byte), 1 ≤ s.params.bl → PkFits s.srcPtr s →
    deltaZzFwd s.params.arithCheck s.packSource = .ok C →
    WidthIs (s.params.ep.estimate C) bw w →
    B = s.params.ep.compress C w → B.length ≤ s.byteCap.toNat →
    ∃ t, exec (.packD1z bw) s = .next t ∧ PackDone s t B w (s.smRead s.srcPtr.toNat)

/-! ### Unpack commands (43_composed_commands.md section 3) -/

/-- R121: UNPACK.VAN writes the packer's values. -/
def Obligations.UnpackVanWritesValues : Prop :=
  ∀ (s : State) (bw : Nat) (V : List Word) (count : Word), PkFits s.dstPtr s → 1 ≤ bw → bw ≤ 32 →
    V = blockValues s.params.bl (s.params.ep.decompress s.unpackRegion bw).1 →
    count = (s.params.ep.decompress s.unpackRegion bw).2 → count.toNat ≤ s.byteCap.toNat →
    ∃ t, exec (.unpackVan bw) s = .next t ∧ UnpackDone s t V count bw 0

/-- R119, R122: UNPACK.M1 adds 1 to the first n = (count × 8) ÷ bw values and writes the rest as the packer gave
them. -/
def Obligations.UnpackM1WritesValues : Prop :=
  ∀ (s : State) (bw n : Nat) (V : List Word) (count : Word), PkFits s.dstPtr s → 1 ≤ bw → bw ≤ 32 →
    V = blockValues s.params.bl (s.params.ep.decompress s.unpackRegion bw).1 →
    count = (s.params.ep.decompress s.unpackRegion bw).2 → count.toNat ≤ s.byteCap.toNat →
    n = count.toNat * 8 / bw → n ≤ s.params.bl →
    (s.params.arithCheck = false ∨ 0xFFFFFFFF#32 ∉ V.take n) →
    ∃ t, exec (.unpackM1 bw) s = .next t ∧
      UnpackDone s t ((V.take n).map (fun x => x + 1#32) ++ V.drop n) count bw n

/-- R123: UNPACK.D1 writes the values of the packer's sorted function, with INIT as the initial value; the count is
in elements. -/
def Obligations.UnpackD1WritesValues : Prop :=
  ∀ (s : State) (bw : Nat) (V : List Word) (count : Word), PkFits s.dstPtr s → 1 ≤ bw → bw ≤ 32 →
    V = blockValues s.params.bl (s.params.ep.decompressSorted s.init s.unpackRegion bw).1 →
    count = (s.params.ep.decompressSorted s.init s.unpackRegion bw).2 → count.toNat ≤ s.params.bl →
    ∃ t, exec (.unpackD1 bw) s = .next t ∧ UnpackDone s t V count bw 0

/-- R119, R124: UNPACK.D1Z decodes the first n values from INIT on, each against the value decoded before it, and
writes the rest as the packer gave them. With ARITH_CHECK = 1 it does so where `ZZ_DEC` has a range event at none of
the n. -/
def Obligations.UnpackD1zWritesValues : Prop :=
  ∀ (s : State) (bw n : Nat) (V : List Word) (count : Word), PkFits s.dstPtr s → 1 ≤ bw → bw ≤ 32 →
    V = blockValues s.params.bl (s.params.ep.decompress s.unpackRegion bw).1 →
    count = (s.params.ep.decompress s.unpackRegion bw).2 → count.toNat ≤ s.byteCap.toNat →
    n = count.toNat * 8 / bw → n ≤ s.params.bl →
    (s.params.arithCheck = false ∨ ¬ decodeRangeEvent s.init (V.take n)) →
    ∃ t X, exec (.unpackD1z bw) s = .next t ∧ UnpackDone s t (X ++ V.drop n) count bw n ∧ X.length = n ∧
      ∀ k, k < n →
        zzDec s.params.arithCheck (if k = 0 then s.init else X.getD (k - 1) 0#32) (V.getD k 0#32) =
          .ok (X.getD k 0#32)

/-! ### Priority of errors (60_exceptions.md R133) -/

/-- R133 for PACK, after decode: the first error of its list that applies, and none where none does. -/
def Obligations.PackErrorPriority : Prop :=
  ∀ (fam : Family) (bw : Nat) (s : State), ∃ t, exec (pkCommandOf fam false bw) s = .next t ∧
    (¬ PkFits s.srcPtr s → t.err = .length) ∧
    (PkFits s.srcPtr s → 32 < bw → t.err = .width) ∧
    (PkFits s.srcPtr s → bw ≤ 32 →
      (fam = .m1 → 0#32 ∈ s.packSource → t.err = .invalidValue) ∧
      (fam = .d1z → s.params.arithCheck = true → ¬ pairsInDomain (seedOf s.packSource) s.packSource →
        t.err = .range) ∧
      (∀ T, tsmForward fam s.params.arithCheck s.packSource = .ok T →
        (bw = 0 → 32 < (answerEstimate s.params.ep (tsmEstimate fam s.packSource T)).toNat → t.err = .packer) ∧
        (∀ w, WidthIs (answerEstimate s.params.ep (tsmEstimate fam s.packSource T)) bw w →
          (s.byteCap.toNat < (answerCompress s.params.ep (tsmCompress fam s.packSource T w)).length →
            t.err = .packer) ∧
          ((answerCompress s.params.ep (tsmCompress fam s.packSource T w)).length ≤ s.byteCap.toNat →
            t.err = .none))))

/-- R133 for UNPACK, after decode: the first error of its list that applies, and none where none does. -/
def Obligations.UnpackErrorPriority : Prop :=
  ∀ (fam : Family) (bw : Nat) (s : State) (q : DecompressRequest) (V : List Word) (count : Word),
    q = tsmDecompress fam s.init s.unpackRegion bw → (V, count) = answerDecompress s.params.bl s.params.ep q →
    ∃ t, exec (pkCommandOf fam true bw) s = .next t ∧
    (¬ PkFits s.dstPtr s → t.err = .length) ∧
    (PkFits s.dstPtr s → 32 < bw → t.err = .width) ∧
    (PkFits s.dstPtr s → bw = 0 → t.err = .zeroWidth) ∧
    (PkFits s.dstPtr s → 1 ≤ bw → bw ≤ 32 →
      (countLimit s.params.bl s.byteCap.toNat q < count.toNat → t.err = .packer) ∧
      (count.toNat ≤ countLimit s.params.bl s.byteCap.toNat q →
        (fam = .van ∨ fam = .d1 → t.err = .none) ∧
        (fam = .m1 ∨ fam = .d1z → s.params.bl < count.toNat * 8 / bw → t.err = .length) ∧
        (fam = .m1 → count.toNat * 8 / bw ≤ s.params.bl →
          (t.err = if s.params.arithCheck = true ∧ 0xFFFFFFFF#32 ∈ V.take (count.toNat * 8 / bw)
            then .range else .none)) ∧
        (fam = .d1z → count.toNat * 8 / bw ≤ s.params.bl →
          (t.err = .range ↔
            s.params.arithCheck = true ∧ decodeRangeEvent s.init (V.take (count.toNat * 8 / bw))) ∧
          (t.err = .range ∨ t.err = .none))))

/-! ### The round-trip law (43_composed_commands.md R125, R126) -/

/-- R125 for VAN, under the five assumptions on the packer. -/
def Obligations.PackUnpackRoundTripVan : Prop :=
  ∀ (s t u : State) (bw0 : Nat), s.params.legal → EpMeets s.params.bl s.params.ep →
    exec (.packVan bw0) s = .next t → t.err = .none → UnpackAfter s t u →
    (bw0 = 0 ∨ valuesBelow bw0 s.packSource) →
    UnpacksTo (.unpackVan t.resolvedBw.toNat) u s.packSource

/-- R125 for M1: that the pack succeeded says that no element is 0. -/
def Obligations.PackUnpackRoundTripM1 : Prop :=
  ∀ (s t u : State) (bw0 : Nat), s.params.legal → EpMeets s.params.bl s.params.ep →
    exec (.packM1 bw0) s = .next t → t.err = .none → UnpackAfter s t u →
    (bw0 = 0 ∨ ∀ x ∈ s.packSource, x.toNat - 1 < 2 ^ bw0) →
    UnpacksTo (.unpackM1 t.resolvedBw.toNat) u s.packSource

/-- R125 for D1: a non-decreasing source, and INIT the reported seed. -/
def Obligations.PackUnpackRoundTripD1 : Prop :=
  ∀ (s t u : State) (bw0 : Nat), s.params.legal → EpMeets s.params.bl s.params.ep →
    exec (.packD1 bw0) s = .next t → t.err = .none → UnpackAfter s t u → u.init = t.seed →
    sortedFrom (seedOf s.packSource) s.packSource →
    (bw0 = 0 ∨ diffsBelow bw0 (seedOf s.packSource) s.packSource) →
    UnpacksTo (.unpackD1 t.resolvedBw.toNat) u s.packSource

/-- R125 for D1Z: every pair of neighbours in the zigzag domain, and INIT the reported seed. -/
def Obligations.PackUnpackRoundTripD1z : Prop :=
  ∀ (s t u : State) (bw0 : Nat), s.params.legal → EpMeets s.params.bl s.params.ep →
    exec (.packD1z bw0) s = .next t → t.err = .none → UnpackAfter s t u → u.init = t.seed →
    pairsInDomain (seedOf s.packSource) s.packSource →
    (bw0 = 0 ∨ ∀ C, deltaZzFwd s.params.arithCheck s.packSource = .ok C → valuesBelow bw0 C) →
    UnpacksTo (.unpackD1z t.resolvedBw.toNat) u s.packSource

/-- R126: two auto-detect packs of one family on the same source, build and capacity write the same bytes and report
the same result, width and seed, whatever else differs; so any byte region that holds either is the same. -/
def Obligations.AutoDetectPackIsIdempotent : Prop :=
  ∀ (fam : Family) (s s' t t' : State),
    s'.params = s.params → s'.packSource = s.packSource → s'.byteCap = s.byteCap →
    PkFits s.srcPtr s → PkFits s'.srcPtr s' →
    exec (pkCommandOf fam false 0) s = .next t → exec (pkCommandOf fam false 0) s' = .next t' →
    t'.err = t.err ∧
    (t.err = .none → t'.result = t.result ∧ t'.resolvedBw = t.resolvedBw ∧ t'.seed = t.seed ∧
      t'.bmSeq s'.bytePtr.toNat t'.result.toNat = t.bmSeq s.bytePtr.toNat t.result.toNat)

/-! ### All commands (60_exceptions.md, 10_state.md, 20_memory.md) -/

/-- R137, R130, R131: every command terminates, from every state, with BUSY = 0, DONE = 1 and PHASE = IDLE. That the
packer always answers is the model's choice (assumption log 16), which R100 makes. -/
def Obligations.EveryCommandTerminates : Prop :=
  ∀ (i : Instr) (s : State), ∃ t c, exec i s = .next t ∧ Completed t c

/-- R131: a command that ends with an error changes STATUS and PHASE only; the result registers keep what they
held, which after an accepted GO is 0 (assumption log 12). -/
def Obligations.ErrorsArePrecise : Prop :=
  ∀ (i : Instr) (s t : State), exec i s = .next t → t.err ≠ .none →
    Completed t t.err ∧ SameSetup s t ∧ SmUnchanged s t ∧ BmUnchanged s t ∧
    t.result = s.result ∧ t.resolvedBw = s.resolvedBw ∧ t.nRecovered = s.nRecovered ∧ t.seed = s.seed ∧
    (Inv s → s.busy = true → t.resultsZero)

/-- R128: which commands can raise which codes, and on what; a command that decodes never raises ERR_ILLEGAL. -/
def Obligations.ErrorCodesOnlyWhereListed : Prop :=
  ∀ (i : Instr) (s t : State), exec i s = .next t →
    t.err ≠ .illegal ∧
    (t.err = .width → 32 < i.bw) ∧
    (t.err = .zeroWidth → i ∈ [Instr.unpackVan 0, .unpackM1 0, .unpackD1 0, .unpackD1z 0]) ∧
    (t.err = .invalidValue → i ∈ [Instr.xfM1Fwd, .xfM1FwdSelf, .packM1 i.bw]) ∧
    (t.err = .range → s.params.arithCheck = true ∧
      i ∈ [Instr.xfM1Inv, .xfM1InvSelf, .xfD1zFwd, .xfD1zFwdSelf, .xfD1zInv, .xfD1zInvSelf,
        .packD1z i.bw, .unpackM1 i.bw, .unpackD1z i.bw]) ∧
    (t.err = .packer → i ∈ [Instr.packVan i.bw, .packM1 i.bw, .packD1 i.bw, .packD1z i.bw,
      .unpackVan i.bw, .unpackM1 i.bw, .unpackD1 i.bw, .unpackD1z i.bw])

/-- R38, R85, R113, R114, R120, R29: no command changes an operand register. XF and UNPACK leave BM, and PACK leaves SM
and the bytes of BM outside its region. Every word of SM outside the destination region keeps its value: LEN words
from the destination on for XF, BL words from DST_PTR on for UNPACK. -/
def Obligations.CommandsLeaveTheOtherMemory : Prop :=
  ∀ (i : Instr) (s t : State), exec i s = .next t →
    SameSetup s t ∧
    (i ∉ [Instr.packVan i.bw, .packM1 i.bw, .packD1 i.bw, .packD1z i.bw] → BmUnchanged s t) ∧
    (i ∈ [Instr.packVan i.bw, .packM1 i.bw, .packD1 i.bw, .packD1z i.bw] → SmUnchanged s t ∧
      ∀ j, j < s.bytePtr.toNat ∨ s.bytePtr.toNat + s.byteCap.toNat ≤ j → t.bmRead j = s.bmRead j) ∧
    (i ∈ [Instr.unpackVan i.bw, .unpackM1 i.bw, .unpackD1 i.bw, .unpackD1z i.bw] →
      ∀ k, k < s.dstPtr.toNat ∨ s.dstPtr.toNat + s.params.bl ≤ k → t.smRead k = s.smRead k) ∧
    (∀ self : Bool, (i, self) ∈ [(Instr.xfVanFwd, false), (.xfVanFwdSelf, true), (.xfVanInv, false),
        (.xfVanInvSelf, true), (.xfM1Fwd, false), (.xfM1FwdSelf, true), (.xfM1Inv, false), (.xfM1InvSelf, true),
        (.xfD1zFwd, false), (.xfD1zFwdSelf, true), (.xfD1zInv, false), (.xfD1zInvSelf, true)] →
      ∀ k, k < s.xfDst self ∨ s.xfDst self + s.len.toNat ≤ k → t.smRead k = s.smRead k)

/-- R19, R20, R38: the operands a command ignores do not change what it does: DST_PTR for the self forms and PACK,
SRC_PTR for UNPACK, BYTE_PTR, BYTE_CAP and BM for XF, INIT for all but the d1z inverses, UNPACK.D1 and
UNPACK.D1Z. -/
def Obligations.IgnoredOperandsDoNotMatter : Prop :=
  ∀ (i : Instr) (s t : State) (v v' : Word) (m : List Host.Cell), exec i s = .next t →
    (i ∈ [Instr.xfVanFwdSelf, .xfVanInvSelf, .xfM1FwdSelf, .xfM1InvSelf, .xfD1zFwdSelf, .xfD1zInvSelf,
        .packVan i.bw, .packM1 i.bw, .packD1 i.bw, .packD1z i.bw] →
      exec i { s with dstPtr := v } = .next { t with dstPtr := v }) ∧
    (i ∈ [Instr.unpackVan i.bw, .unpackM1 i.bw, .unpackD1 i.bw, .unpackD1z i.bw] →
      exec i { s with srcPtr := v } = .next { t with srcPtr := v }) ∧
    (i ∈ [Instr.xfVanFwd, .xfVanFwdSelf, .xfVanInv, .xfVanInvSelf, .xfM1Fwd, .xfM1FwdSelf, .xfM1Inv,
        .xfM1InvSelf, .xfD1zFwd, .xfD1zFwdSelf, .xfD1zInv, .xfD1zInvSelf] →
      exec i { s with bytePtr := v, byteCap := v', bm := m } =
        .next { t with bytePtr := v, byteCap := v', bm := m }) ∧
    (i ∉ [Instr.xfD1zInv, .xfD1zInvSelf, .unpackD1 i.bw, .unpackD1z i.bw] →
      exec i { s with init := v } = .next { t with init := v })

/-! ### The host's accesses (10_state.md, 20_memory.md) -/

/-- R16 to R20: an operand register reads back all 32 bits as written, and no other register changes. -/
def Obligations.OperandRegistersReadBack : Prop :=
  ∀ (s : State) (r : Reg) (v : Word), r ∈ [Reg.cmd, .len, .srcPtr, .dstPtr, .bytePtr, .byteCap, .init] →
    s.resetLine = false → s.busy = false →
    ∃ t, hostAccess (.regWrite (s.params.regAddr r) v) s = .next t ∧ t.readReg r = v ∧
      (∀ r', r' ≠ r → t.readReg r' = s.readReg r') ∧ t.params = s.params ∧ t.phase = s.phase ∧
      t.resetLine = s.resetLine ∧ t.inputs = s.inputs ∧ SmUnchanged s t ∧ BmUnchanged s t

/-- R21: what an accepted GO does, and which writes of CTRL are none. -/
def Obligations.CtrlWriteIsGo : Prop :=
  ∀ (s : State) (v : Word), s.resetLine = false →
    (s.busy = false → v.getLsbD 0 = true →
      ∃ t, hostAccess (.regWrite (s.params.regAddr .ctrl) v) s = .next t ∧
        t.busy = true ∧ t.done = false ∧ t.err = .none ∧ t.resultsZero ∧ t.phase = .run ∧
        SameSetup s t ∧ SmUnchanged s t ∧ BmUnchanged s t) ∧
    (s.busy = true → hostAccess (.regWrite (s.params.regAddr .ctrl) v) s = .next s) ∧
    (v.getLsbD 0 = false → hostAccess (.regWrite (s.params.regAddr .ctrl) v) s = .next s) ∧
    s.readReg .ctrl = 0#32 ∧ Reg.ctrl.offset = 0x1C

/-- R29, R46, R152, R153: while BUSY = 1 every host write the block defines, a GO among them, is dropped. -/
def Obligations.WritesWhileBusyAreDropped : Prop :=
  ∀ s : State, s.resetLine = false → s.busy = true →
    (∀ (r : Reg) (v : Word), hostAccess (.regWrite (s.params.regAddr r) v) s = .next s) ∧
    (∀ (i : Nat) (v : Word), i < s.params.smWords → hostAccess (.smWrite i v) s = .next s) ∧
    (∀ (j : Nat) (v : Byte), j < s.params.bmBytes → hostAccess (.bmWrite j v) s = .next s)

/-- R30, R46, R47: a host read answers and changes nothing; a register read answers the current value, a memory read
the stored value while BUSY = 0 and some value while BUSY = 1 (assumption log 7). -/
def Obligations.ReadsHaveNoSideEffect : Prop :=
  ∀ s : State, s.resetLine = false →
    (∀ r : Reg, hostAccess (.regRead (s.params.regAddr r)) s = .next { s with reply := .word (s.readReg r) }) ∧
    (s.busy = false →
      (∀ i, i < s.params.smWords → hostAccess (.smRead i) s = .next { s with reply := .word (s.smRead i) }) ∧
      (∀ j, j < s.params.bmBytes → hostAccess (.bmRead j) s = .next { s with reply := .byte (s.bmRead j) })) ∧
    (s.busy = true →
      (∀ i, i < s.params.smWords →
        ∃ v, hostAccess (.smRead i) s = .next { s with reply := .word v, freeCount := s.freeCount + 1 }) ∧
      (∀ j, j < s.params.bmBytes →
        ∃ v, hostAccess (.bmRead j) s = .next { s with reply := .byte v, freeCount := s.freeCount + 1 }))

/-- R22 to R28: writes of the read-only and the reserved registers are ignored, and the reserved ones read 0. -/
def Obligations.ReadOnlyRegistersIgnoreWrites : Prop :=
  ∀ (s : State) (v : Word), s.resetLine = false →
    (∀ r ∈ [Reg.status, .result, .resolvedBw, .nRecovered, .seed, .param, .reserved38, .reserved3C],
      hostAccess (.regWrite (s.params.regAddr r) v) s = .next s) ∧
    Reg.reserved38.offset = 0x38 ∧ Reg.reserved3C.offset = 0x3C ∧
    s.readReg .reserved38 = 0#32 ∧ s.readReg .reserved3C = 0#32

/-- R22, R128: every bit of STATUS, and the number of every code. -/
def Obligations.StatusBits : Prop :=
  (∀ (s : State) (k : Nat), (s.readReg .status).getLsbD k =
    if k = 0 then s.busy else if k = 1 then s.done
    else if 8 ≤ k ∧ k < 12 then s.err.code.getLsbD (k - 8) else false) ∧
  [ErrCode.none, .illegal, .length, .width, .zeroWidth, .invalidValue, .range, .packer].map
    (fun c => c.code.toNat) = [0, 1, 2, 3, 4, 5, 6, 7]

/-- R27: PARAM reports BL and ARITH_CHECK. -/
def Obligations.ParamReportsTheBuild : Prop :=
  ∀ s : State, s.params.legal →
    (s.readReg .param).toNat = s.params.bl * 256 + s.params.arithCheck.toNat ∧
    ((s.readReg .param).extractLsb' 8 24).toNat = s.params.bl ∧
    (s.readReg .param).extractLsb' 1 7 = 0#7 ∧
    (s.readReg .param).getLsbD 0 = s.params.arithCheck

/-- R37, R38, R41: while BUSY = 0 a host write of a memory cell is seen by the next read of it, and no other cell or
register changes. -/
def Obligations.HostMemoryWritesReadBack : Prop :=
  ∀ s : State, s.resetLine = false → s.busy = false →
    (∀ (i : Nat) (v : Word), i < s.params.smWords →
      ∃ t, hostAccess (.smWrite i v) s = .next t ∧ t.smRead i = v ∧ (∀ k, k ≠ i → t.smRead k = s.smRead k) ∧
        BmUnchanged s t ∧ SameSetup s t ∧ ∀ r, t.readReg r = s.readReg r) ∧
    (∀ (j : Nat) (v : Byte), j < s.params.bmBytes →
      ∃ t, hostAccess (.bmWrite j v) s = .next t ∧ t.bmRead j = v ∧ (∀ k, k ≠ j → t.bmRead k = s.bmRead k) ∧
        SmUnchanged s t ∧ SameSetup s t ∧ ∀ r, t.readReg r = s.readReg r)

/-- R41, R28, R145 (assumption logs 9, 10): a step stops exactly where the host makes an access the block does not
define, or makes one while reset is asserted. -/
def Obligations.OnlyUndefinedAccessesStop : Prop :=
  ∀ s : State, stepsOn s ↔
    ∀ (a : HostAccess) (rest : List Input), s.inputs = .access a :: rest →
      s.resetLine = false ∧ a.defined s.params

/-! ### Reset (70_reset_and_hazards.md) -/

/-- R146, R148: asserting reset, at any time, leaves every register reading 0 but PARAM, PHASE IDLE, and SM, BM and
the build as they were; a running command writes nothing. That reset comes as a pending input is the model's choice
(assumption logs 4, 10). -/
def Obligations.ResetClearsRegisters : Prop :=
  ∀ (s : State) (rest : List Input), s.inputs = .resetLine true :: rest →
    ∃ t, step s = .next t ∧ (∀ r, r ≠ .param → t.readReg r = 0#32) ∧
      t.readReg .param = BitVec.ofNat 32 (s.params.bl * 256 + s.params.arithCheck.toNat) ∧
      t.phase = .idle ∧ t.params = s.params ∧ t.resetLine = true ∧ t.inputs = rest ∧
      SmUnchanged s t ∧ BmUnchanged s t

/-- R149: right after reset CMD = 0, which is XF.VAN.FWD, and LEN = 0; so a GO with no register written before it
completes with ERR_LENGTH and writes nothing. The pending inputs, reset asserted and released, GO, a turn of the TU, are
the model's form of it (assumption logs 4, 5, 10). -/
def Obligations.GoRightAfterResetIsLengthError : Prop :=
  ∀ s : State, s.inputs = [.resetLine true, .resetLine false, hostGo s.params, .tuTurn] →
    (∃ r, Host.Core.run core 2 s = .next r ∧ r.cmd = 0#32 ∧ decode r.cmd = some .xfVanFwd ∧ r.len = 0#32) ∧
    ∃ t, Host.Core.run core 4 s = .next t ∧ t.readReg .status = 0x00000202#32 ∧
      SmUnchanged s t ∧ BmUnchanged s t ∧ t.resultsZero

/-! ### The step -/

/-- R17, R53: where it is the TU's turn and a command is running, the step is the command that CMD decodes to, after
the turn is taken off the pending inputs. Turns and pending inputs are the model's choice (assumption logs 4, 5). -/
def Obligations.StepRunsTheDecodedCommand : Prop :=
  ∀ (s : State) (i : Instr) (rest : List Input), s.tuNext rest → s.phase = .run → decode s.cmd = some i →
    step s = exec i (s.setInputs rest)

/-- R21, R50, R154: an accepted GO and then a turn of the TU run the command that CMD held at the GO, on the state
the GO left. That the command takes one turn is the model's choice (assumption log 5), which R157 allows. -/
def Obligations.GoThenTurnRunsTheCommand : Prop :=
  ∀ (s : State) (i : Instr) (rest : List Input), s.inputs = hostGo s.params :: .tuTurn :: rest →
    s.resetLine = false → s.busy = false → decode s.cmd = some i →
    ∃ t, step s = .next t ∧ t.readReg .status = 1#32 ∧ t.resultsZero ∧
      Host.Core.run core 2 s = exec i ((s.setInputs rest).acceptGo)

/-- R47, R22: only a host write of CTRL with bit 0 set raises BUSY, and only that or reset clears DONE. The pending
inputs are the model's choice (assumption log 4). -/
def Obligations.OnlyGoStartsACommand : Prop :=
  ∀ s t : State, step s = .next t →
    ((s.busy = false ∧ t.busy = true) →
      ∃ v rest, s.inputs = .access (.regWrite (s.params.regAddr .ctrl) v) :: rest ∧ v.getLsbD 0 = true) ∧
    ((s.done = true ∧ t.done = false) →
      (∃ v rest, s.inputs = .access (.regWrite (s.params.regAddr .ctrl) v) :: rest ∧ v.getLsbD 0 = true) ∨
      (∃ rest, s.inputs = .resetLine true :: rest))

/-- R137, R46: only the TU's own turn or reset ends a running command, and while it runs only the TU's turn can change
a memory. The pending inputs are the model's choice (assumption log 4). -/
def Obligations.OnlyCompletionOrResetEndsACommand : Prop :=
  ∀ s t : State, step s = .next t → s.busy = true →
    (t.busy = false → (∃ rest, s.tuNext rest) ∨ (∃ rest, s.inputs = .resetLine true :: rest)) ∧
    ((¬ ∃ rest, s.tuNext rest) → SmUnchanged s t ∧ BmUnchanged s t)

/-- R7, R27: no step changes the build parameters. -/
def Obligations.BuildParametersAreConstant : Prop :=
  ∀ s t : State, step s = .next t → t.params = s.params

/-- R146: the state after power-on and reset meets the invariant, for every build, and so does the fixed one. -/
def Obligations.ResetMeetsTheInvariant : Prop :=
  (∀ p : Params, Inv (State.powerOn p)) ∧ Inv State.reset

/-- R22, R24 to R26, R32, R33, R35, R43: every step from a state that meets the invariant leads to one that does. -/
def Obligations.StepKeepsTheInvariant : Prop :=
  ∀ s t : State, Inv s → step s = .next t → Inv t

/-- The canonical form of memory (assumption log 3): canonical memories that read alike are the same data. -/
def Obligations.CanonicalMemoriesAreEqual : Prop :=
  ∀ (w : Nat) (dflt : Nat → BitVec w) (m m' : List (Nat × BitVec w)),
    Memory.wf dflt m = true → Memory.wf dflt m' = true →
    (∀ a, Memory.read dflt m a = Memory.read dflt m' a) → m = m'
end

