-- ==== Sys2Proof/Laws/State.lean ====
section
/-! SUPPORT. The small lemmas of State: one for each field and each update, and what the reads see of an update.
A later proof rewrites with these and unfolds no record update. -/

namespace Sys2Proof.Machine

variable (s : State)

/-! ### `smWrite` -/

@[simp] theorem State.smWrite_params (p : Nat) (xs : List Word) : (s.smWrite p xs).params = s.params := rfl
@[simp] theorem State.smWrite_cmd (p : Nat) (xs : List Word) : (s.smWrite p xs).cmd = s.cmd := rfl
@[simp] theorem State.smWrite_len (p : Nat) (xs : List Word) : (s.smWrite p xs).len = s.len := rfl
@[simp] theorem State.smWrite_srcPtr (p : Nat) (xs : List Word) : (s.smWrite p xs).srcPtr = s.srcPtr := rfl
@[simp] theorem State.smWrite_dstPtr (p : Nat) (xs : List Word) : (s.smWrite p xs).dstPtr = s.dstPtr := rfl
@[simp] theorem State.smWrite_bytePtr (p : Nat) (xs : List Word) : (s.smWrite p xs).bytePtr = s.bytePtr := rfl
@[simp] theorem State.smWrite_byteCap (p : Nat) (xs : List Word) : (s.smWrite p xs).byteCap = s.byteCap := rfl
@[simp] theorem State.smWrite_init (p : Nat) (xs : List Word) : (s.smWrite p xs).init = s.init := rfl
@[simp] theorem State.smWrite_busy (p : Nat) (xs : List Word) : (s.smWrite p xs).busy = s.busy := rfl
@[simp] theorem State.smWrite_done (p : Nat) (xs : List Word) : (s.smWrite p xs).done = s.done := rfl
@[simp] theorem State.smWrite_err (p : Nat) (xs : List Word) : (s.smWrite p xs).err = s.err := rfl
@[simp] theorem State.smWrite_result (p : Nat) (xs : List Word) : (s.smWrite p xs).result = s.result := rfl
@[simp] theorem State.smWrite_resolvedBw (p : Nat) (xs : List Word) : (s.smWrite p xs).resolvedBw = s.resolvedBw := rfl
@[simp] theorem State.smWrite_nRecovered (p : Nat) (xs : List Word) : (s.smWrite p xs).nRecovered = s.nRecovered := rfl
@[simp] theorem State.smWrite_seed (p : Nat) (xs : List Word) : (s.smWrite p xs).seed = s.seed := rfl
@[simp] theorem State.smWrite_phase (p : Nat) (xs : List Word) : (s.smWrite p xs).phase = s.phase := rfl
@[simp] theorem State.smWrite_scr (p : Nat) (xs : List Word) : (s.smWrite p xs).scr = s.scr := rfl
@[simp] theorem State.smWrite_preVal (p : Nat) (xs : List Word) : (s.smWrite p xs).preVal = s.preVal := rfl
@[simp] theorem State.smWrite_idx (p : Nat) (xs : List Word) : (s.smWrite p xs).idx = s.idx := rfl
@[simp] theorem State.smWrite_sm (p : Nat) (xs : List Word) : (s.smWrite p xs).sm = Memory.writeSeq s.params.smInitAt s.sm p xs := rfl
@[simp] theorem State.smWrite_bm (p : Nat) (xs : List Word) : (s.smWrite p xs).bm = s.bm := rfl
@[simp] theorem State.smWrite_resetLine (p : Nat) (xs : List Word) : (s.smWrite p xs).resetLine = s.resetLine := rfl
@[simp] theorem State.smWrite_inputs (p : Nat) (xs : List Word) : (s.smWrite p xs).inputs = s.inputs := rfl
@[simp] theorem State.smWrite_reply (p : Nat) (xs : List Word) : (s.smWrite p xs).reply = s.reply := rfl
@[simp] theorem State.smWrite_freeCount (p : Nat) (xs : List Word) : (s.smWrite p xs).freeCount = s.freeCount := rfl
@[simp] theorem State.smWrite_bmRead (p : Nat) (xs : List Word) (j : Nat) : (s.smWrite p xs).bmRead j = s.bmRead j := rfl

/-! ### `bmWrite` -/

@[simp] theorem State.bmWrite_params (p : Nat) (bs : List Byte) : (s.bmWrite p bs).params = s.params := rfl
@[simp] theorem State.bmWrite_cmd (p : Nat) (bs : List Byte) : (s.bmWrite p bs).cmd = s.cmd := rfl
@[simp] theorem State.bmWrite_len (p : Nat) (bs : List Byte) : (s.bmWrite p bs).len = s.len := rfl
@[simp] theorem State.bmWrite_srcPtr (p : Nat) (bs : List Byte) : (s.bmWrite p bs).srcPtr = s.srcPtr := rfl
@[simp] theorem State.bmWrite_dstPtr (p : Nat) (bs : List Byte) : (s.bmWrite p bs).dstPtr = s.dstPtr := rfl
@[simp] theorem State.bmWrite_bytePtr (p : Nat) (bs : List Byte) : (s.bmWrite p bs).bytePtr = s.bytePtr := rfl
@[simp] theorem State.bmWrite_byteCap (p : Nat) (bs : List Byte) : (s.bmWrite p bs).byteCap = s.byteCap := rfl
@[simp] theorem State.bmWrite_init (p : Nat) (bs : List Byte) : (s.bmWrite p bs).init = s.init := rfl
@[simp] theorem State.bmWrite_busy (p : Nat) (bs : List Byte) : (s.bmWrite p bs).busy = s.busy := rfl
@[simp] theorem State.bmWrite_done (p : Nat) (bs : List Byte) : (s.bmWrite p bs).done = s.done := rfl
@[simp] theorem State.bmWrite_err (p : Nat) (bs : List Byte) : (s.bmWrite p bs).err = s.err := rfl
@[simp] theorem State.bmWrite_result (p : Nat) (bs : List Byte) : (s.bmWrite p bs).result = s.result := rfl
@[simp] theorem State.bmWrite_resolvedBw (p : Nat) (bs : List Byte) : (s.bmWrite p bs).resolvedBw = s.resolvedBw := rfl
@[simp] theorem State.bmWrite_nRecovered (p : Nat) (bs : List Byte) : (s.bmWrite p bs).nRecovered = s.nRecovered := rfl
@[simp] theorem State.bmWrite_seed (p : Nat) (bs : List Byte) : (s.bmWrite p bs).seed = s.seed := rfl
@[simp] theorem State.bmWrite_phase (p : Nat) (bs : List Byte) : (s.bmWrite p bs).phase = s.phase := rfl
@[simp] theorem State.bmWrite_scr (p : Nat) (bs : List Byte) : (s.bmWrite p bs).scr = s.scr := rfl
@[simp] theorem State.bmWrite_preVal (p : Nat) (bs : List Byte) : (s.bmWrite p bs).preVal = s.preVal := rfl
@[simp] theorem State.bmWrite_idx (p : Nat) (bs : List Byte) : (s.bmWrite p bs).idx = s.idx := rfl
@[simp] theorem State.bmWrite_sm (p : Nat) (bs : List Byte) : (s.bmWrite p bs).sm = s.sm := rfl
@[simp] theorem State.bmWrite_bm (p : Nat) (bs : List Byte) : (s.bmWrite p bs).bm = Memory.writeSeq s.params.bmInitAt s.bm p bs := rfl
@[simp] theorem State.bmWrite_resetLine (p : Nat) (bs : List Byte) : (s.bmWrite p bs).resetLine = s.resetLine := rfl
@[simp] theorem State.bmWrite_inputs (p : Nat) (bs : List Byte) : (s.bmWrite p bs).inputs = s.inputs := rfl
@[simp] theorem State.bmWrite_reply (p : Nat) (bs : List Byte) : (s.bmWrite p bs).reply = s.reply := rfl
@[simp] theorem State.bmWrite_freeCount (p : Nat) (bs : List Byte) : (s.bmWrite p bs).freeCount = s.freeCount := rfl
@[simp] theorem State.bmWrite_smRead (p : Nat) (bs : List Byte) (i : Nat) : (s.bmWrite p bs).smRead i = s.smRead i := rfl

/-! ### `freeInternals` -/

@[simp] theorem State.freeInternals_params : (s.freeInternals).params = s.params := rfl
@[simp] theorem State.freeInternals_cmd : (s.freeInternals).cmd = s.cmd := rfl
@[simp] theorem State.freeInternals_len : (s.freeInternals).len = s.len := rfl
@[simp] theorem State.freeInternals_srcPtr : (s.freeInternals).srcPtr = s.srcPtr := rfl
@[simp] theorem State.freeInternals_dstPtr : (s.freeInternals).dstPtr = s.dstPtr := rfl
@[simp] theorem State.freeInternals_bytePtr : (s.freeInternals).bytePtr = s.bytePtr := rfl
@[simp] theorem State.freeInternals_byteCap : (s.freeInternals).byteCap = s.byteCap := rfl
@[simp] theorem State.freeInternals_init : (s.freeInternals).init = s.init := rfl
@[simp] theorem State.freeInternals_busy : (s.freeInternals).busy = s.busy := rfl
@[simp] theorem State.freeInternals_done : (s.freeInternals).done = s.done := rfl
@[simp] theorem State.freeInternals_err : (s.freeInternals).err = s.err := rfl
@[simp] theorem State.freeInternals_result : (s.freeInternals).result = s.result := rfl
@[simp] theorem State.freeInternals_resolvedBw : (s.freeInternals).resolvedBw = s.resolvedBw := rfl
@[simp] theorem State.freeInternals_nRecovered : (s.freeInternals).nRecovered = s.nRecovered := rfl
@[simp] theorem State.freeInternals_seed : (s.freeInternals).seed = s.seed := rfl
@[simp] theorem State.freeInternals_phase : (s.freeInternals).phase = s.phase := rfl
@[simp] theorem State.freeInternals_scr : (s.freeInternals).scr = (List.range s.params.bl).map (Config.freeScr s.freeCount) := rfl
@[simp] theorem State.freeInternals_preVal : (s.freeInternals).preVal = Config.freePreVal s.freeCount := rfl
@[simp] theorem State.freeInternals_idx : (s.freeInternals).idx = Config.freeIdx s.freeCount % (s.params.bl + 1) := rfl
@[simp] theorem State.freeInternals_sm : (s.freeInternals).sm = s.sm := rfl
@[simp] theorem State.freeInternals_bm : (s.freeInternals).bm = s.bm := rfl
@[simp] theorem State.freeInternals_resetLine : (s.freeInternals).resetLine = s.resetLine := rfl
@[simp] theorem State.freeInternals_inputs : (s.freeInternals).inputs = s.inputs := rfl
@[simp] theorem State.freeInternals_reply : (s.freeInternals).reply = s.reply := rfl
@[simp] theorem State.freeInternals_freeCount : (s.freeInternals).freeCount = s.freeCount + 1 := rfl
@[simp] theorem State.freeInternals_smRead (i : Nat) : (s.freeInternals).smRead i = s.smRead i := rfl
@[simp] theorem State.freeInternals_bmRead (j : Nat) : (s.freeInternals).bmRead j = s.bmRead j := rfl

/-! ### `acceptGo` -/

@[simp] theorem State.acceptGo_params : (s.acceptGo).params = s.params := rfl
@[simp] theorem State.acceptGo_cmd : (s.acceptGo).cmd = s.cmd := rfl
@[simp] theorem State.acceptGo_len : (s.acceptGo).len = s.len := rfl
@[simp] theorem State.acceptGo_srcPtr : (s.acceptGo).srcPtr = s.srcPtr := rfl
@[simp] theorem State.acceptGo_dstPtr : (s.acceptGo).dstPtr = s.dstPtr := rfl
@[simp] theorem State.acceptGo_bytePtr : (s.acceptGo).bytePtr = s.bytePtr := rfl
@[simp] theorem State.acceptGo_byteCap : (s.acceptGo).byteCap = s.byteCap := rfl
@[simp] theorem State.acceptGo_init : (s.acceptGo).init = s.init := rfl
@[simp] theorem State.acceptGo_busy : (s.acceptGo).busy = true := rfl
@[simp] theorem State.acceptGo_done : (s.acceptGo).done = false := rfl
@[simp] theorem State.acceptGo_err : (s.acceptGo).err = .none := rfl
@[simp] theorem State.acceptGo_result : (s.acceptGo).result = 0#32 := rfl
@[simp] theorem State.acceptGo_resolvedBw : (s.acceptGo).resolvedBw = 0#8 := rfl
@[simp] theorem State.acceptGo_nRecovered : (s.acceptGo).nRecovered = 0#32 := rfl
@[simp] theorem State.acceptGo_seed : (s.acceptGo).seed = 0#32 := rfl
@[simp] theorem State.acceptGo_phase : (s.acceptGo).phase = .run := rfl
@[simp] theorem State.acceptGo_scr : (s.acceptGo).scr = s.scr := rfl
@[simp] theorem State.acceptGo_preVal : (s.acceptGo).preVal = s.preVal := rfl
@[simp] theorem State.acceptGo_idx : (s.acceptGo).idx = s.idx := rfl
@[simp] theorem State.acceptGo_sm : (s.acceptGo).sm = s.sm := rfl
@[simp] theorem State.acceptGo_bm : (s.acceptGo).bm = s.bm := rfl
@[simp] theorem State.acceptGo_resetLine : (s.acceptGo).resetLine = s.resetLine := rfl
@[simp] theorem State.acceptGo_inputs : (s.acceptGo).inputs = s.inputs := rfl
@[simp] theorem State.acceptGo_reply : (s.acceptGo).reply = s.reply := rfl
@[simp] theorem State.acceptGo_freeCount : (s.acceptGo).freeCount = s.freeCount := rfl
@[simp] theorem State.acceptGo_smRead (i : Nat) : (s.acceptGo).smRead i = s.smRead i := rfl
@[simp] theorem State.acceptGo_bmRead (j : Nat) : (s.acceptGo).bmRead j = s.bmRead j := rfl

/-! ### `setXfResults` -/

@[simp] theorem State.setXfResults_params (l d : Word) : (s.setXfResults l d).params = s.params := rfl
@[simp] theorem State.setXfResults_cmd (l d : Word) : (s.setXfResults l d).cmd = s.cmd := rfl
@[simp] theorem State.setXfResults_len (l d : Word) : (s.setXfResults l d).len = s.len := rfl
@[simp] theorem State.setXfResults_srcPtr (l d : Word) : (s.setXfResults l d).srcPtr = s.srcPtr := rfl
@[simp] theorem State.setXfResults_dstPtr (l d : Word) : (s.setXfResults l d).dstPtr = s.dstPtr := rfl
@[simp] theorem State.setXfResults_bytePtr (l d : Word) : (s.setXfResults l d).bytePtr = s.bytePtr := rfl
@[simp] theorem State.setXfResults_byteCap (l d : Word) : (s.setXfResults l d).byteCap = s.byteCap := rfl
@[simp] theorem State.setXfResults_init (l d : Word) : (s.setXfResults l d).init = s.init := rfl
@[simp] theorem State.setXfResults_busy (l d : Word) : (s.setXfResults l d).busy = s.busy := rfl
@[simp] theorem State.setXfResults_done (l d : Word) : (s.setXfResults l d).done = s.done := rfl
@[simp] theorem State.setXfResults_err (l d : Word) : (s.setXfResults l d).err = s.err := rfl
@[simp] theorem State.setXfResults_result (l d : Word) : (s.setXfResults l d).result = l := rfl
@[simp] theorem State.setXfResults_resolvedBw (l d : Word) : (s.setXfResults l d).resolvedBw = s.resolvedBw := rfl
@[simp] theorem State.setXfResults_nRecovered (l d : Word) : (s.setXfResults l d).nRecovered = s.nRecovered := rfl
@[simp] theorem State.setXfResults_seed (l d : Word) : (s.setXfResults l d).seed = d := rfl
@[simp] theorem State.setXfResults_phase (l d : Word) : (s.setXfResults l d).phase = s.phase := rfl
@[simp] theorem State.setXfResults_scr (l d : Word) : (s.setXfResults l d).scr = s.scr := rfl
@[simp] theorem State.setXfResults_preVal (l d : Word) : (s.setXfResults l d).preVal = s.preVal := rfl
@[simp] theorem State.setXfResults_idx (l d : Word) : (s.setXfResults l d).idx = s.idx := rfl
@[simp] theorem State.setXfResults_sm (l d : Word) : (s.setXfResults l d).sm = s.sm := rfl
@[simp] theorem State.setXfResults_bm (l d : Word) : (s.setXfResults l d).bm = s.bm := rfl
@[simp] theorem State.setXfResults_resetLine (l d : Word) : (s.setXfResults l d).resetLine = s.resetLine := rfl
@[simp] theorem State.setXfResults_inputs (l d : Word) : (s.setXfResults l d).inputs = s.inputs := rfl
@[simp] theorem State.setXfResults_reply (l d : Word) : (s.setXfResults l d).reply = s.reply := rfl
@[simp] theorem State.setXfResults_freeCount (l d : Word) : (s.setXfResults l d).freeCount = s.freeCount := rfl
@[simp] theorem State.setXfResults_smRead (l d : Word) (i : Nat) : (s.setXfResults l d).smRead i = s.smRead i := rfl
@[simp] theorem State.setXfResults_bmRead (l d : Word) (j : Nat) : (s.setXfResults l d).bmRead j = s.bmRead j := rfl

/-! ### `setPackResults` -/

@[simp] theorem State.setPackResults_params (n : Word) (b : Byte) (d : Word) : (s.setPackResults n b d).params = s.params := rfl
@[simp] theorem State.setPackResults_cmd (n : Word) (b : Byte) (d : Word) : (s.setPackResults n b d).cmd = s.cmd := rfl
@[simp] theorem State.setPackResults_len (n : Word) (b : Byte) (d : Word) : (s.setPackResults n b d).len = s.len := rfl
@[simp] theorem State.setPackResults_srcPtr (n : Word) (b : Byte) (d : Word) : (s.setPackResults n b d).srcPtr = s.srcPtr := rfl
@[simp] theorem State.setPackResults_dstPtr (n : Word) (b : Byte) (d : Word) : (s.setPackResults n b d).dstPtr = s.dstPtr := rfl
@[simp] theorem State.setPackResults_bytePtr (n : Word) (b : Byte) (d : Word) : (s.setPackResults n b d).bytePtr = s.bytePtr := rfl
@[simp] theorem State.setPackResults_byteCap (n : Word) (b : Byte) (d : Word) : (s.setPackResults n b d).byteCap = s.byteCap := rfl
@[simp] theorem State.setPackResults_init (n : Word) (b : Byte) (d : Word) : (s.setPackResults n b d).init = s.init := rfl
@[simp] theorem State.setPackResults_busy (n : Word) (b : Byte) (d : Word) : (s.setPackResults n b d).busy = s.busy := rfl
@[simp] theorem State.setPackResults_done (n : Word) (b : Byte) (d : Word) : (s.setPackResults n b d).done = s.done := rfl
@[simp] theorem State.setPackResults_err (n : Word) (b : Byte) (d : Word) : (s.setPackResults n b d).err = s.err := rfl
@[simp] theorem State.setPackResults_result (n : Word) (b : Byte) (d : Word) : (s.setPackResults n b d).result = n := rfl
@[simp] theorem State.setPackResults_resolvedBw (n : Word) (b : Byte) (d : Word) : (s.setPackResults n b d).resolvedBw = b := rfl
@[simp] theorem State.setPackResults_nRecovered (n : Word) (b : Byte) (d : Word) : (s.setPackResults n b d).nRecovered = s.nRecovered := rfl
@[simp] theorem State.setPackResults_seed (n : Word) (b : Byte) (d : Word) : (s.setPackResults n b d).seed = d := rfl
@[simp] theorem State.setPackResults_phase (n : Word) (b : Byte) (d : Word) : (s.setPackResults n b d).phase = s.phase := rfl
@[simp] theorem State.setPackResults_scr (n : Word) (b : Byte) (d : Word) : (s.setPackResults n b d).scr = s.scr := rfl
@[simp] theorem State.setPackResults_preVal (n : Word) (b : Byte) (d : Word) : (s.setPackResults n b d).preVal = s.preVal := rfl
@[simp] theorem State.setPackResults_idx (n : Word) (b : Byte) (d : Word) : (s.setPackResults n b d).idx = s.idx := rfl
@[simp] theorem State.setPackResults_sm (n : Word) (b : Byte) (d : Word) : (s.setPackResults n b d).sm = s.sm := rfl
@[simp] theorem State.setPackResults_bm (n : Word) (b : Byte) (d : Word) : (s.setPackResults n b d).bm = s.bm := rfl
@[simp] theorem State.setPackResults_resetLine (n : Word) (b : Byte) (d : Word) : (s.setPackResults n b d).resetLine = s.resetLine := rfl
@[simp] theorem State.setPackResults_inputs (n : Word) (b : Byte) (d : Word) : (s.setPackResults n b d).inputs = s.inputs := rfl
@[simp] theorem State.setPackResults_reply (n : Word) (b : Byte) (d : Word) : (s.setPackResults n b d).reply = s.reply := rfl
@[simp] theorem State.setPackResults_freeCount (n : Word) (b : Byte) (d : Word) : (s.setPackResults n b d).freeCount = s.freeCount := rfl
@[simp] theorem State.setPackResults_smRead (n : Word) (b : Byte) (d : Word) (i : Nat) : (s.setPackResults n b d).smRead i = s.smRead i := rfl
@[simp] theorem State.setPackResults_bmRead (n : Word) (b : Byte) (d : Word) (j : Nat) : (s.setPackResults n b d).bmRead j = s.bmRead j := rfl

/-! ### `setUnpackResults` -/

@[simp] theorem State.setUnpackResults_params (n : Word) (b : Byte) (r : Word) : (s.setUnpackResults n b r).params = s.params := rfl
@[simp] theorem State.setUnpackResults_cmd (n : Word) (b : Byte) (r : Word) : (s.setUnpackResults n b r).cmd = s.cmd := rfl
@[simp] theorem State.setUnpackResults_len (n : Word) (b : Byte) (r : Word) : (s.setUnpackResults n b r).len = s.len := rfl
@[simp] theorem State.setUnpackResults_srcPtr (n : Word) (b : Byte) (r : Word) : (s.setUnpackResults n b r).srcPtr = s.srcPtr := rfl
@[simp] theorem State.setUnpackResults_dstPtr (n : Word) (b : Byte) (r : Word) : (s.setUnpackResults n b r).dstPtr = s.dstPtr := rfl
@[simp] theorem State.setUnpackResults_bytePtr (n : Word) (b : Byte) (r : Word) : (s.setUnpackResults n b r).bytePtr = s.bytePtr := rfl
@[simp] theorem State.setUnpackResults_byteCap (n : Word) (b : Byte) (r : Word) : (s.setUnpackResults n b r).byteCap = s.byteCap := rfl
@[simp] theorem State.setUnpackResults_init (n : Word) (b : Byte) (r : Word) : (s.setUnpackResults n b r).init = s.init := rfl
@[simp] theorem State.setUnpackResults_busy (n : Word) (b : Byte) (r : Word) : (s.setUnpackResults n b r).busy = s.busy := rfl
@[simp] theorem State.setUnpackResults_done (n : Word) (b : Byte) (r : Word) : (s.setUnpackResults n b r).done = s.done := rfl
@[simp] theorem State.setUnpackResults_err (n : Word) (b : Byte) (r : Word) : (s.setUnpackResults n b r).err = s.err := rfl
@[simp] theorem State.setUnpackResults_result (n : Word) (b : Byte) (r : Word) : (s.setUnpackResults n b r).result = n := rfl
@[simp] theorem State.setUnpackResults_resolvedBw (n : Word) (b : Byte) (r : Word) : (s.setUnpackResults n b r).resolvedBw = b := rfl
@[simp] theorem State.setUnpackResults_nRecovered (n : Word) (b : Byte) (r : Word) : (s.setUnpackResults n b r).nRecovered = r := rfl
@[simp] theorem State.setUnpackResults_seed (n : Word) (b : Byte) (r : Word) : (s.setUnpackResults n b r).seed = s.seed := rfl
@[simp] theorem State.setUnpackResults_phase (n : Word) (b : Byte) (r : Word) : (s.setUnpackResults n b r).phase = s.phase := rfl
@[simp] theorem State.setUnpackResults_scr (n : Word) (b : Byte) (r : Word) : (s.setUnpackResults n b r).scr = s.scr := rfl
@[simp] theorem State.setUnpackResults_preVal (n : Word) (b : Byte) (r : Word) : (s.setUnpackResults n b r).preVal = s.preVal := rfl
@[simp] theorem State.setUnpackResults_idx (n : Word) (b : Byte) (r : Word) : (s.setUnpackResults n b r).idx = s.idx := rfl
@[simp] theorem State.setUnpackResults_sm (n : Word) (b : Byte) (r : Word) : (s.setUnpackResults n b r).sm = s.sm := rfl
@[simp] theorem State.setUnpackResults_bm (n : Word) (b : Byte) (r : Word) : (s.setUnpackResults n b r).bm = s.bm := rfl
@[simp] theorem State.setUnpackResults_resetLine (n : Word) (b : Byte) (r : Word) : (s.setUnpackResults n b r).resetLine = s.resetLine := rfl
@[simp] theorem State.setUnpackResults_inputs (n : Word) (b : Byte) (r : Word) : (s.setUnpackResults n b r).inputs = s.inputs := rfl
@[simp] theorem State.setUnpackResults_reply (n : Word) (b : Byte) (r : Word) : (s.setUnpackResults n b r).reply = s.reply := rfl
@[simp] theorem State.setUnpackResults_freeCount (n : Word) (b : Byte) (r : Word) : (s.setUnpackResults n b r).freeCount = s.freeCount := rfl
@[simp] theorem State.setUnpackResults_smRead (n : Word) (b : Byte) (r : Word) (i : Nat) : (s.setUnpackResults n b r).smRead i = s.smRead i := rfl
@[simp] theorem State.setUnpackResults_bmRead (n : Word) (b : Byte) (r : Word) (j : Nat) : (s.setUnpackResults n b r).bmRead j = s.bmRead j := rfl

/-! ### `completeOk` -/

@[simp] theorem State.completeOk_params : (s.completeOk).params = s.params := rfl
@[simp] theorem State.completeOk_cmd : (s.completeOk).cmd = s.cmd := rfl
@[simp] theorem State.completeOk_len : (s.completeOk).len = s.len := rfl
@[simp] theorem State.completeOk_srcPtr : (s.completeOk).srcPtr = s.srcPtr := rfl
@[simp] theorem State.completeOk_dstPtr : (s.completeOk).dstPtr = s.dstPtr := rfl
@[simp] theorem State.completeOk_bytePtr : (s.completeOk).bytePtr = s.bytePtr := rfl
@[simp] theorem State.completeOk_byteCap : (s.completeOk).byteCap = s.byteCap := rfl
@[simp] theorem State.completeOk_init : (s.completeOk).init = s.init := rfl
@[simp] theorem State.completeOk_busy : (s.completeOk).busy = false := rfl
@[simp] theorem State.completeOk_done : (s.completeOk).done = true := rfl
@[simp] theorem State.completeOk_err : (s.completeOk).err = .none := rfl
@[simp] theorem State.completeOk_result : (s.completeOk).result = s.result := rfl
@[simp] theorem State.completeOk_resolvedBw : (s.completeOk).resolvedBw = s.resolvedBw := rfl
@[simp] theorem State.completeOk_nRecovered : (s.completeOk).nRecovered = s.nRecovered := rfl
@[simp] theorem State.completeOk_seed : (s.completeOk).seed = s.seed := rfl
@[simp] theorem State.completeOk_phase : (s.completeOk).phase = .idle := rfl
@[simp] theorem State.completeOk_scr : (s.completeOk).scr = (List.range s.params.bl).map (Config.freeScr s.freeCount) := rfl
@[simp] theorem State.completeOk_preVal : (s.completeOk).preVal = Config.freePreVal s.freeCount := rfl
@[simp] theorem State.completeOk_idx : (s.completeOk).idx = Config.freeIdx s.freeCount % (s.params.bl + 1) := rfl
@[simp] theorem State.completeOk_sm : (s.completeOk).sm = s.sm := rfl
@[simp] theorem State.completeOk_bm : (s.completeOk).bm = s.bm := rfl
@[simp] theorem State.completeOk_resetLine : (s.completeOk).resetLine = s.resetLine := rfl
@[simp] theorem State.completeOk_inputs : (s.completeOk).inputs = s.inputs := rfl
@[simp] theorem State.completeOk_reply : (s.completeOk).reply = s.reply := rfl
@[simp] theorem State.completeOk_freeCount : (s.completeOk).freeCount = s.freeCount + 1 := rfl
@[simp] theorem State.completeOk_smRead (i : Nat) : (s.completeOk).smRead i = s.smRead i := rfl
@[simp] theorem State.completeOk_bmRead (j : Nat) : (s.completeOk).bmRead j = s.bmRead j := rfl

/-! ### `completeErr` -/

@[simp] theorem State.completeErr_params (c : ErrCode) : (s.completeErr c).params = s.params := rfl
@[simp] theorem State.completeErr_cmd (c : ErrCode) : (s.completeErr c).cmd = s.cmd := rfl
@[simp] theorem State.completeErr_len (c : ErrCode) : (s.completeErr c).len = s.len := rfl
@[simp] theorem State.completeErr_srcPtr (c : ErrCode) : (s.completeErr c).srcPtr = s.srcPtr := rfl
@[simp] theorem State.completeErr_dstPtr (c : ErrCode) : (s.completeErr c).dstPtr = s.dstPtr := rfl
@[simp] theorem State.completeErr_bytePtr (c : ErrCode) : (s.completeErr c).bytePtr = s.bytePtr := rfl
@[simp] theorem State.completeErr_byteCap (c : ErrCode) : (s.completeErr c).byteCap = s.byteCap := rfl
@[simp] theorem State.completeErr_init (c : ErrCode) : (s.completeErr c).init = s.init := rfl
@[simp] theorem State.completeErr_busy (c : ErrCode) : (s.completeErr c).busy = false := rfl
@[simp] theorem State.completeErr_done (c : ErrCode) : (s.completeErr c).done = true := rfl
@[simp] theorem State.completeErr_err (c : ErrCode) : (s.completeErr c).err = c := rfl
@[simp] theorem State.completeErr_result (c : ErrCode) : (s.completeErr c).result = s.result := rfl
@[simp] theorem State.completeErr_resolvedBw (c : ErrCode) : (s.completeErr c).resolvedBw = s.resolvedBw := rfl
@[simp] theorem State.completeErr_nRecovered (c : ErrCode) : (s.completeErr c).nRecovered = s.nRecovered := rfl
@[simp] theorem State.completeErr_seed (c : ErrCode) : (s.completeErr c).seed = s.seed := rfl
@[simp] theorem State.completeErr_phase (c : ErrCode) : (s.completeErr c).phase = .idle := rfl
@[simp] theorem State.completeErr_scr (c : ErrCode) : (s.completeErr c).scr = (List.range s.params.bl).map (Config.freeScr s.freeCount) := rfl
@[simp] theorem State.completeErr_preVal (c : ErrCode) : (s.completeErr c).preVal = Config.freePreVal s.freeCount := rfl
@[simp] theorem State.completeErr_idx (c : ErrCode) : (s.completeErr c).idx = Config.freeIdx s.freeCount % (s.params.bl + 1) := rfl
@[simp] theorem State.completeErr_sm (c : ErrCode) : (s.completeErr c).sm = s.sm := rfl
@[simp] theorem State.completeErr_bm (c : ErrCode) : (s.completeErr c).bm = s.bm := rfl
@[simp] theorem State.completeErr_resetLine (c : ErrCode) : (s.completeErr c).resetLine = s.resetLine := rfl
@[simp] theorem State.completeErr_inputs (c : ErrCode) : (s.completeErr c).inputs = s.inputs := rfl
@[simp] theorem State.completeErr_reply (c : ErrCode) : (s.completeErr c).reply = s.reply := rfl
@[simp] theorem State.completeErr_freeCount (c : ErrCode) : (s.completeErr c).freeCount = s.freeCount + 1 := rfl
@[simp] theorem State.completeErr_smRead (c : ErrCode) (i : Nat) : (s.completeErr c).smRead i = s.smRead i := rfl
@[simp] theorem State.completeErr_bmRead (c : ErrCode) (j : Nat) : (s.completeErr c).bmRead j = s.bmRead j := rfl

/-! ### `resetRegisters` -/

@[simp] theorem State.resetRegisters_params : (s.resetRegisters).params = s.params := rfl
@[simp] theorem State.resetRegisters_cmd : (s.resetRegisters).cmd = 0#32 := rfl
@[simp] theorem State.resetRegisters_len : (s.resetRegisters).len = 0#32 := rfl
@[simp] theorem State.resetRegisters_srcPtr : (s.resetRegisters).srcPtr = 0#32 := rfl
@[simp] theorem State.resetRegisters_dstPtr : (s.resetRegisters).dstPtr = 0#32 := rfl
@[simp] theorem State.resetRegisters_bytePtr : (s.resetRegisters).bytePtr = 0#32 := rfl
@[simp] theorem State.resetRegisters_byteCap : (s.resetRegisters).byteCap = 0#32 := rfl
@[simp] theorem State.resetRegisters_init : (s.resetRegisters).init = 0#32 := rfl
@[simp] theorem State.resetRegisters_busy : (s.resetRegisters).busy = false := rfl
@[simp] theorem State.resetRegisters_done : (s.resetRegisters).done = false := rfl
@[simp] theorem State.resetRegisters_err : (s.resetRegisters).err = .none := rfl
@[simp] theorem State.resetRegisters_result : (s.resetRegisters).result = 0#32 := rfl
@[simp] theorem State.resetRegisters_resolvedBw : (s.resetRegisters).resolvedBw = 0#8 := rfl
@[simp] theorem State.resetRegisters_nRecovered : (s.resetRegisters).nRecovered = 0#32 := rfl
@[simp] theorem State.resetRegisters_seed : (s.resetRegisters).seed = 0#32 := rfl
@[simp] theorem State.resetRegisters_phase : (s.resetRegisters).phase = .idle := rfl
@[simp] theorem State.resetRegisters_scr : (s.resetRegisters).scr = (List.range s.params.bl).map (Config.freeScr s.freeCount) := rfl
@[simp] theorem State.resetRegisters_preVal : (s.resetRegisters).preVal = Config.freePreVal s.freeCount := rfl
@[simp] theorem State.resetRegisters_idx : (s.resetRegisters).idx = Config.freeIdx s.freeCount % (s.params.bl + 1) := rfl
@[simp] theorem State.resetRegisters_sm : (s.resetRegisters).sm = s.sm := rfl
@[simp] theorem State.resetRegisters_bm : (s.resetRegisters).bm = s.bm := rfl
@[simp] theorem State.resetRegisters_resetLine : (s.resetRegisters).resetLine = s.resetLine := rfl
@[simp] theorem State.resetRegisters_inputs : (s.resetRegisters).inputs = s.inputs := rfl
@[simp] theorem State.resetRegisters_reply : (s.resetRegisters).reply = s.reply := rfl
@[simp] theorem State.resetRegisters_freeCount : (s.resetRegisters).freeCount = s.freeCount + 1 := rfl
@[simp] theorem State.resetRegisters_smRead (i : Nat) : (s.resetRegisters).smRead i = s.smRead i := rfl
@[simp] theorem State.resetRegisters_bmRead (j : Nat) : (s.resetRegisters).bmRead j = s.bmRead j := rfl

/-! ### `setReply` -/

@[simp] theorem State.setReply_params (r : Reply) : (s.setReply r).params = s.params := rfl
@[simp] theorem State.setReply_cmd (r : Reply) : (s.setReply r).cmd = s.cmd := rfl
@[simp] theorem State.setReply_len (r : Reply) : (s.setReply r).len = s.len := rfl
@[simp] theorem State.setReply_srcPtr (r : Reply) : (s.setReply r).srcPtr = s.srcPtr := rfl
@[simp] theorem State.setReply_dstPtr (r : Reply) : (s.setReply r).dstPtr = s.dstPtr := rfl
@[simp] theorem State.setReply_bytePtr (r : Reply) : (s.setReply r).bytePtr = s.bytePtr := rfl
@[simp] theorem State.setReply_byteCap (r : Reply) : (s.setReply r).byteCap = s.byteCap := rfl
@[simp] theorem State.setReply_init (r : Reply) : (s.setReply r).init = s.init := rfl
@[simp] theorem State.setReply_busy (r : Reply) : (s.setReply r).busy = s.busy := rfl
@[simp] theorem State.setReply_done (r : Reply) : (s.setReply r).done = s.done := rfl
@[simp] theorem State.setReply_err (r : Reply) : (s.setReply r).err = s.err := rfl
@[simp] theorem State.setReply_result (r : Reply) : (s.setReply r).result = s.result := rfl
@[simp] theorem State.setReply_resolvedBw (r : Reply) : (s.setReply r).resolvedBw = s.resolvedBw := rfl
@[simp] theorem State.setReply_nRecovered (r : Reply) : (s.setReply r).nRecovered = s.nRecovered := rfl
@[simp] theorem State.setReply_seed (r : Reply) : (s.setReply r).seed = s.seed := rfl
@[simp] theorem State.setReply_phase (r : Reply) : (s.setReply r).phase = s.phase := rfl
@[simp] theorem State.setReply_scr (r : Reply) : (s.setReply r).scr = s.scr := rfl
@[simp] theorem State.setReply_preVal (r : Reply) : (s.setReply r).preVal = s.preVal := rfl
@[simp] theorem State.setReply_idx (r : Reply) : (s.setReply r).idx = s.idx := rfl
@[simp] theorem State.setReply_sm (r : Reply) : (s.setReply r).sm = s.sm := rfl
@[simp] theorem State.setReply_bm (r : Reply) : (s.setReply r).bm = s.bm := rfl
@[simp] theorem State.setReply_resetLine (r : Reply) : (s.setReply r).resetLine = s.resetLine := rfl
@[simp] theorem State.setReply_inputs (r : Reply) : (s.setReply r).inputs = s.inputs := rfl
@[simp] theorem State.setReply_reply (r : Reply) : (s.setReply r).reply = r := rfl
@[simp] theorem State.setReply_freeCount (r : Reply) : (s.setReply r).freeCount = s.freeCount := rfl
@[simp] theorem State.setReply_smRead (r : Reply) (i : Nat) : (s.setReply r).smRead i = s.smRead i := rfl
@[simp] theorem State.setReply_bmRead (r : Reply) (j : Nat) : (s.setReply r).bmRead j = s.bmRead j := rfl

/-! ### `setInputs` -/

@[simp] theorem State.setInputs_params (is : List Input) : (s.setInputs is).params = s.params := rfl
@[simp] theorem State.setInputs_cmd (is : List Input) : (s.setInputs is).cmd = s.cmd := rfl
@[simp] theorem State.setInputs_len (is : List Input) : (s.setInputs is).len = s.len := rfl
@[simp] theorem State.setInputs_srcPtr (is : List Input) : (s.setInputs is).srcPtr = s.srcPtr := rfl
@[simp] theorem State.setInputs_dstPtr (is : List Input) : (s.setInputs is).dstPtr = s.dstPtr := rfl
@[simp] theorem State.setInputs_bytePtr (is : List Input) : (s.setInputs is).bytePtr = s.bytePtr := rfl
@[simp] theorem State.setInputs_byteCap (is : List Input) : (s.setInputs is).byteCap = s.byteCap := rfl
@[simp] theorem State.setInputs_init (is : List Input) : (s.setInputs is).init = s.init := rfl
@[simp] theorem State.setInputs_busy (is : List Input) : (s.setInputs is).busy = s.busy := rfl
@[simp] theorem State.setInputs_done (is : List Input) : (s.setInputs is).done = s.done := rfl
@[simp] theorem State.setInputs_err (is : List Input) : (s.setInputs is).err = s.err := rfl
@[simp] theorem State.setInputs_result (is : List Input) : (s.setInputs is).result = s.result := rfl
@[simp] theorem State.setInputs_resolvedBw (is : List Input) : (s.setInputs is).resolvedBw = s.resolvedBw := rfl
@[simp] theorem State.setInputs_nRecovered (is : List Input) : (s.setInputs is).nRecovered = s.nRecovered := rfl
@[simp] theorem State.setInputs_seed (is : List Input) : (s.setInputs is).seed = s.seed := rfl
@[simp] theorem State.setInputs_phase (is : List Input) : (s.setInputs is).phase = s.phase := rfl
@[simp] theorem State.setInputs_scr (is : List Input) : (s.setInputs is).scr = s.scr := rfl
@[simp] theorem State.setInputs_preVal (is : List Input) : (s.setInputs is).preVal = s.preVal := rfl
@[simp] theorem State.setInputs_idx (is : List Input) : (s.setInputs is).idx = s.idx := rfl
@[simp] theorem State.setInputs_sm (is : List Input) : (s.setInputs is).sm = s.sm := rfl
@[simp] theorem State.setInputs_bm (is : List Input) : (s.setInputs is).bm = s.bm := rfl
@[simp] theorem State.setInputs_resetLine (is : List Input) : (s.setInputs is).resetLine = s.resetLine := rfl
@[simp] theorem State.setInputs_inputs (is : List Input) : (s.setInputs is).inputs = is := rfl
@[simp] theorem State.setInputs_reply (is : List Input) : (s.setInputs is).reply = s.reply := rfl
@[simp] theorem State.setInputs_freeCount (is : List Input) : (s.setInputs is).freeCount = s.freeCount := rfl
@[simp] theorem State.setInputs_smRead (is : List Input) (i : Nat) : (s.setInputs is).smRead i = s.smRead i := rfl
@[simp] theorem State.setInputs_bmRead (is : List Input) (j : Nat) : (s.setInputs is).bmRead j = s.bmRead j := rfl

end Sys2Proof.Machine
end

