-- ==== Sys2Proof/Laws/Memory.lean ====
section
/-! SUPPORT. The laws of memory: a read after a write, and the canonical form is kept by every operation. -/

namespace Sys2Proof.Machine

section Cells

variable {w : Nat} (dflt : Nat → BitVec w)

theorem Memory.read_erase (m : List (Nat × BitVec w)) (i a : Nat) :
    Memory.read dflt (Memory.erase m i) a = if a = i then dflt a else Memory.read dflt m a := by
  induction m with
  | nil => simp [Memory.erase, Memory.read]
  | cons c m ih =>
    unfold Memory.erase at ih ⊢
    by_cases hc : c.1 = i
    · simp only [List.filter, hc, bne_self_eq_false, ih, Memory.read]
      by_cases ha : a = i
      · simp [ha]
      · simp [ha, Ne.symm ha]
    · simp only [List.filter, bne_iff_ne.mpr hc, Memory.read, ih]
      by_cases ha : a = i
      · simp [ha, hc]
      · simp [ha]

theorem Memory.read_insert (m : List (Nat × BitVec w)) (i a : Nat) (v : BitVec w)
    (h : ∀ c ∈ m, c.1 ≠ i) :
    Memory.read dflt (Memory.insert m i v) a = if a = i then v else Memory.read dflt m a := by
  induction m with
  | nil => simp [Memory.insert, Memory.read, eq_comm]
  | cons c m ih =>
    have hm : ∀ d ∈ m, d.1 ≠ i := fun d hd => h d (List.mem_cons_of_mem _ hd)
    have hc : c.1 ≠ i := h c List.mem_cons_self
    unfold Memory.insert
    split
    · simp [Memory.read, eq_comm]
    · simp only [Memory.read, ih hm]
      by_cases ha : a = i
      · simp [ha, hc]
      · simp [ha]

theorem Memory.erase_ne (m : List (Nat × BitVec w)) (i : Nat) : ∀ c ∈ Memory.erase m i, c.1 ≠ i := by
  intro c hc
  simpa using (List.mem_filter.mp hc).2

/-- A read after a write of one cell. -/
theorem Memory.read_write (m : List (Nat × BitVec w)) (i a : Nat) (v : BitVec w) :
    Memory.read dflt (Memory.write dflt m i v) a = if a = i then v else Memory.read dflt m a := by
  unfold Memory.write
  split
  · rename_i h
    rw [Memory.read_erase]
    split
    · next ha => rw [ha, h]
    · rfl
  · rw [Memory.read_insert dflt _ _ _ _ (Memory.erase_ne m i), Memory.read_erase]
    by_cases ha : a = i <;> simp [ha]

/-- A read after a write of a sequence. -/
theorem Memory.read_writeSeq (xs : List (BitVec w)) (m : List (Nat × BitVec w)) (p a : Nat) :
    Memory.read dflt (Memory.writeSeq dflt m p xs) a =
      if p ≤ a ∧ a < p + xs.length then xs.getD (a - p) 0#w else Memory.read dflt m a := by
  induction xs generalizing m p with
  | nil =>
    simp [Memory.writeSeq]
  | cons x xs ih =>
    rw [Memory.writeSeq, ih, Memory.read_write]
    by_cases h : p ≤ a
    · obtain rfl | hlt := Nat.eq_or_lt_of_le h
      · simp
      · obtain ⟨k, rfl⟩ : ∃ k, a = p + 1 + k := ⟨a - (p + 1), by omega⟩
        have e : p + 1 + k - p = k + 1 := by omega
        have e' : p + 1 + k - (p + 1) = k := by omega
        have n : ¬ p + 1 + k = p := by omega
        simp only [e, e', n, List.getD_cons_succ, List.length_cons, if_false]
        by_cases hk : k < xs.length
        · rw [if_pos (by omega), if_pos (by omega)]
        · rw [if_neg (by omega), if_neg (by omega)]
    · rw [if_neg (by omega), if_neg (by omega), if_neg (by omega)]

theorem Memory.wf_cons {c : Nat × BitVec w} {m : List (Nat × BitVec w)} :
    Memory.wf dflt (c :: m) = true ↔
      c.2 ≠ dflt c.1 ∧ (∀ d ∈ m, c.1 < d.1) ∧ Memory.wf dflt m = true := by
  simp [Memory.wf, and_assoc]

theorem Memory.wf_erase {m : List (Nat × BitVec w)} (i : Nat) (h : Memory.wf dflt m = true) :
    Memory.wf dflt (Memory.erase m i) = true := by
  induction m with
  | nil => rfl
  | cons c m ih =>
    obtain ⟨hc, hlt, hm⟩ := (Memory.wf_cons dflt).mp h
    unfold Memory.erase at ih ⊢
    by_cases hi : c.1 = i
    · simpa [List.filter, hi] using ih hm
    · simp only [List.filter, bne_iff_ne.mpr hi]
      exact (Memory.wf_cons dflt).mpr ⟨hc, fun d hd => hlt d (List.mem_of_mem_filter hd), ih hm⟩

theorem Memory.mem_insert {m : List (Nat × BitVec w)} {i : Nat} {v : BitVec w} {d : Nat × BitVec w}
    (h : d ∈ Memory.insert m i v) : d = (i, v) ∨ d ∈ m := by
  induction m with
  | nil => simpa [Memory.insert] using h
  | cons c m ih =>
    unfold Memory.insert at h
    split at h
    · simpa using h
    · rcases List.mem_cons.mp h with rfl | h
      · exact .inr List.mem_cons_self
      · exact (ih h).imp_right (List.mem_cons_of_mem _)

theorem Memory.wf_insert {m : List (Nat × BitVec w)} {i : Nat} {v : BitVec w}
    (h : Memory.wf dflt m = true) (hv : v ≠ dflt i) (hi : ∀ c ∈ m, c.1 ≠ i) :
    Memory.wf dflt (Memory.insert m i v) = true := by
  induction m with
  | nil => simp [Memory.insert, Memory.wf, hv]
  | cons c m ih =>
    obtain ⟨hc, hlt, hm⟩ := (Memory.wf_cons dflt).mp h
    have hci : c.1 ≠ i := hi c List.mem_cons_self
    unfold Memory.insert
    split
    · next hic =>
      refine (Memory.wf_cons dflt).mpr ⟨hv, fun d hd => ?_, h⟩
      rcases List.mem_cons.mp hd with rfl | hd
      · exact hic
      · exact lt_trans hic (hlt d hd)
    · next hic =>
      refine (Memory.wf_cons dflt).mpr ⟨hc, fun d hd => ?_, ih hm fun d hd => hi d (List.mem_cons_of_mem _ hd)⟩
      rcases Memory.mem_insert hd with rfl | hd
      · simp only; omega
      · exact hlt d hd

/-- A write keeps the canonical form. -/
theorem Memory.wf_write {m : List (Nat × BitVec w)} (i : Nat) (v : BitVec w) (h : Memory.wf dflt m = true) :
    Memory.wf dflt (Memory.write dflt m i v) = true := by
  unfold Memory.write
  split
  · exact Memory.wf_erase dflt i h
  · next hv => exact Memory.wf_insert dflt (Memory.wf_erase dflt i h) hv (Memory.erase_ne m i)

/-- A write of a sequence keeps the canonical form. -/
theorem Memory.wf_writeSeq (xs : List (BitVec w)) {m : List (Nat × BitVec w)} (p : Nat)
    (h : Memory.wf dflt m = true) : Memory.wf dflt (Memory.writeSeq dflt m p xs) = true := by
  induction xs generalizing m p with
  | nil => exact h
  | cons x xs ih => exact ih (p + 1) (Memory.wf_write dflt p x h)

theorem Memory.within_write {size : Nat} {m : List (Nat × BitVec w)} {i : Nat} (v : BitVec w)
    (h : Memory.within size m = true) (hi : i < size) :
    Memory.within size (Memory.write dflt m i v) = true := by
  simp only [Memory.within, List.all_eq_true, decide_eq_true_eq] at h ⊢
  intro c hc
  unfold Memory.write at hc
  split at hc
  · exact h c (List.mem_of_mem_filter hc)
  · rcases Memory.mem_insert hc with rfl | hc
    · exact hi
    · exact h c (List.mem_of_mem_filter hc)

/-- A write of a sequence that ends below `size` lists no index at or past it. -/
theorem Memory.within_writeSeq {size : Nat} (xs : List (BitVec w)) {m : List (Nat × BitVec w)} {p : Nat}
    (h : Memory.within size m = true) (hp : p + xs.length ≤ size) :
    Memory.within size (Memory.writeSeq dflt m p xs) = true := by
  induction xs generalizing m p with
  | nil => exact h
  | cons x xs ih =>
    simp only [List.length_cons] at hp
    exact ih (Memory.within_write dflt x h (by omega)) (by omega)

/-- An index below every listed one reads as unlisted. -/
theorem Memory.read_of_lt {m : List (Nat × BitVec w)} {i : Nat} (h : ∀ c ∈ m, i < c.1) :
    Memory.read dflt m i = dflt i := by
  induction m with
  | nil => rfl
  | cons c m ih =>
    have hc : c.1 ≠ i := by have := h c List.mem_cons_self; omega
    simp [Memory.read, hc, ih fun d hd => h d (List.mem_cons_of_mem _ hd)]

end Cells

/-! ### The machine's memories -/

theorem State.smRead_smWrite (s : State) (p : Nat) (xs : List Word) (i : Nat) :
    (s.smWrite p xs).smRead i =
      if p ≤ i ∧ i < p + xs.length then xs.getD (i - p) 0#32 else s.smRead i :=
  Memory.read_writeSeq _ xs s.sm p i

theorem State.bmRead_bmWrite (s : State) (p : Nat) (bs : List Byte) (j : Nat) :
    (s.bmWrite p bs).bmRead j =
      if p ≤ j ∧ j < p + bs.length then bs.getD (j - p) 0#8 else s.bmRead j :=
  Memory.read_writeSeq _ bs s.bm p j

@[simp] theorem State.smSeq_length (s : State) (p n : Nat) : (s.smSeq p n).length = n := by
  simp [State.smSeq]

@[simp] theorem State.bmSeq_length (s : State) (p n : Nat) : (s.bmSeq p n).length = n := by
  simp [State.bmSeq]

theorem State.smSeq_getD (s : State) (p n k : Nat) (h : k < n) :
    (s.smSeq p n).getD k 0#32 = s.smRead (p + k) := by
  simp [State.smSeq, List.getD_eq_getElem?_getD, h]

theorem State.bmSeq_getD (s : State) (p n k : Nat) (h : k < n) :
    (s.bmSeq p n).getD k 0#8 = s.bmRead (p + k) := by
  simp [State.bmSeq, List.getD_eq_getElem?_getD, h]

end Sys2Proof.Machine
end

