-- ==== Sys2Proof/Laws/Commands.lean ====
section
/-! SUPPORT. What each shared operation of the commands can do, said once: the checks, the packer requests, the mux,
and the three command bodies. A later proof cites these and unfolds none of them. -/

namespace Sys2Proof.Machine

/-! ### Sequencing of operations that may raise an error -/

theorem bind_eq_ok {α β : Type} {x : Except ErrCode α} {f : α → Except ErrCode β} {b : β} :
    (x >>= f) = .ok b ↔ ∃ a, x = .ok a ∧ f a = .ok b := by
  cases x <;> simp [bind, Except.bind]

theorem bind_eq_error {α β : Type} {x : Except ErrCode α} {f : α → Except ErrCode β} {e : ErrCode} :
    (x >>= f) = .error e ↔ x = .error e ∨ ∃ a, x = .ok a ∧ f a = .error e := by
  cases x <;> simp [bind, Except.bind]

@[simp] theorem ok_bind {α β : Type} (a : α) (f : α → Except ErrCode β) :
    ((Except.ok a : Except ErrCode α) >>= f) = f a := rfl

@[simp] theorem error_bind {α β : Type} (e : ErrCode) (f : α → Except ErrCode β) :
    ((Except.error e : Except ErrCode α) >>= f) = .error e := rfl

@[simp] theorem finish_ok (s t : State) : finish s (.ok t) = .next t.completeOk := rfl

@[simp] theorem finish_error (s : State) (c : ErrCode) : finish s (.error c) = .next (s.completeErr c) := rfl

/-- A command always ends in a next state: a success or an error. -/
theorem finish_cases {s t : State} {r : Except ErrCode State} (h : finish s r = .next t) :
    (∃ u, r = .ok u ∧ t = u.completeOk) ∨ (∃ c, r = .error c ∧ t = s.completeErr c) := by
  cases r with
  | ok u => exact .inl ⟨u, rfl, by simpa using h.symm⟩
  | error c => exact .inr ⟨c, rfl, by simpa using h.symm⟩

/-! ### Checks -/

theorem xfChecks_ok (self : Bool) (s : State) (u : Unit) : xfChecks self s = .ok u ↔ XfOk self s := by
  unfold xfChecks XfOk
  split_ifs <;> grind

theorem xfChecks_error {self : Bool} {s : State} {c : ErrCode} :
    xfChecks self s = .error c ↔ ¬ XfOk self s ∧ c = .length := by
  unfold xfChecks XfOk
  split_ifs <;> grind

theorem pkChecks_ok (ptr : Word) (bw : Nat) (s : State) (u : Unit) :
    pkChecks ptr bw s = .ok u ↔ PkFits ptr s ∧ bw ≤ 32 := by
  unfold pkChecks PkFits
  split_ifs <;> simp only [false_iff, true_iff] <;> omega

theorem pkChecks_error {ptr : Word} {bw : Nat} {s : State} {c : ErrCode} :
    pkChecks ptr bw s = .error c ↔
      (¬ PkFits ptr s ∧ c = .length) ∨ (PkFits ptr s ∧ 32 < bw ∧ c = .width) := by
  unfold pkChecks PkFits
  split_ifs <;> grind

@[simp] theorem upChecks_ok (bw : Nat) (u : Unit) : upChecks bw = .ok u ↔ bw ≠ 0 := by
  simp [upChecks]

@[simp] theorem upChecks_error (bw : Nat) (c : ErrCode) :
    upChecks bw = .error c ↔ bw = 0 ∧ c = .zeroWidth := by
  by_cases h : bw = 0 <;> simp [upChecks, h, eq_comm]

/-! ### Packer requests -/

theorem requestEstimate_ok {p : Params} {q : EstimateRequest} {n : Nat} :
    requestEstimate p q = .ok n ↔ (answerEstimate p.ep q).toNat ≤ 32 ∧ n = (answerEstimate p.ep q).toNat := by
  unfold requestEstimate
  split <;> simp [eq_comm] <;> omega

theorem requestEstimate_error {p : Params} {q : EstimateRequest} {c : ErrCode} :
    requestEstimate p q = .error c ↔ 32 < (answerEstimate p.ep q).toNat ∧ c = .packer := by
  unfold requestEstimate
  split <;> simp [eq_comm] <;> omega

theorem requestCompress_ok {p : Params} {cap : Nat} {q : CompressRequest} {B : List Byte} :
    requestCompress p cap q = .ok B ↔ (answerCompress p.ep q).length ≤ cap ∧ B = answerCompress p.ep q := by
  unfold requestCompress
  split <;> simp [eq_comm] <;> omega

theorem requestCompress_error {p : Params} {cap : Nat} {q : CompressRequest} {c : ErrCode} :
    requestCompress p cap q = .error c ↔ cap < (answerCompress p.ep q).length ∧ c = .packer := by
  unfold requestCompress
  split <;> simp [eq_comm] <;> omega

theorem requestDecompress_ok {p : Params} {cap : Nat} {q : DecompressRequest} {r : List Word × Word} :
    requestDecompress p cap q = .ok r ↔
      (answerDecompress p.bl p.ep q).2.toNat ≤ countLimit p.bl cap q ∧ r = answerDecompress p.bl p.ep q := by
  unfold requestDecompress
  split <;> simp [eq_comm] <;> omega

theorem requestDecompress_error {p : Params} {cap : Nat} {q : DecompressRequest} {c : ErrCode} :
    requestDecompress p cap q = .error c ↔
      countLimit p.bl cap q < (answerDecompress p.bl p.ep q).2.toNat ∧ c = .packer := by
  unfold requestDecompress
  split <;> simp [eq_comm] <;> omega

@[simp] theorem blockValues_length (bl : Nat) (vs : Nat → Word) : (blockValues bl vs).length = bl := by
  simp [blockValues]

@[simp] theorem answerDecompress_length (bl : Nat) (ep : Packer) (q : DecompressRequest) :
    (answerDecompress bl ep q).1.length = bl := by
  cases q <;> simp [answerDecompress]

/-- The width of a PACK, resolved (R112). -/
theorem resolveBw_ok {p : Params} {fam : Family} {bw w : Nat} {S T : List Word} :
    resolveBw p fam bw S T = .ok w ↔
      if bw = 0 then (answerEstimate p.ep (tsmEstimate fam S T)).toNat ≤ 32 ∧
        w = max 1 (answerEstimate p.ep (tsmEstimate fam S T)).toNat
      else w = bw := by
  unfold resolveBw
  by_cases h : bw = 0
  · simp only [h, ne_eq, not_true_eq_false, if_false, if_true, bind_eq_ok, requestEstimate_ok]
    constructor
    · rintro ⟨n, ⟨h1, rfl⟩, h2⟩
      exact ⟨h1, by simpa using h2.symm⟩
    · rintro ⟨h1, rfl⟩
      exact ⟨_, ⟨h1, rfl⟩, rfl⟩
  · simp [h, eq_comm]

theorem resolveBw_error {p : Params} {fam : Family} {bw : Nat} {S T : List Word} {c : ErrCode} :
    resolveBw p fam bw S T = .error c ↔
      bw = 0 ∧ 32 < (answerEstimate p.ep (tsmEstimate fam S T)).toNat ∧ c = .packer := by
  unfold resolveBw
  by_cases h : bw = 0
  · simp [h, bind_eq_error, requestEstimate_error]
  · simp [h]

/-! ### The element functions keep the length -/

theorem mapElements_length {f : Word → Except ErrCode Word} {S T : List Word} (h : mapElements f S = .ok T) :
    T.length = S.length := by
  induction S generalizing T with
  | nil => simp_all [mapElements]
  | cons x xs ih =>
    simp only [mapElements, bind_eq_ok] at h
    obtain ⟨y, -, ys, hys, h⟩ := h
    obtain rfl := by simpa using h.symm
    simp [ih hys]

theorem m1Forward_ok {S T : List Word} : m1Forward S = .ok T ↔ 0#32 ∉ S ∧ T = S.map ofsFwd := by
  unfold m1Forward
  split <;> simp_all [eq_comm]

theorem m1Forward_error {S : List Word} {c : ErrCode} :
    m1Forward S = .error c ↔ 0#32 ∈ S ∧ c = .invalidValue := by
  unfold m1Forward
  split <;> simp_all [eq_comm]

theorem deltaEncFrom_length {chk : Bool} {pre : Word} {S T : List Word} (h : deltaEncFrom chk pre S = .ok T) :
    T.length = S.length := by
  induction S generalizing T pre with
  | nil => simp_all [deltaEncFrom]
  | cons x xs ih =>
    simp only [deltaEncFrom, bind_eq_ok] at h
    obtain ⟨y, -, ys, hys, h⟩ := h
    obtain rfl := by simpa using h.symm
    simp [ih hys]

theorem deltaDecFrom_length {chk : Bool} {pre : Word} {S T : List Word} (h : deltaDecFrom chk pre S = .ok T) :
    T.length = S.length := by
  induction S generalizing T pre with
  | nil => simp_all [deltaDecFrom]
  | cons x xs ih =>
    simp only [deltaDecFrom, bind_eq_ok] at h
    obtain ⟨y, -, ys, hys, h⟩ := h
    obtain rfl := by simpa using h.symm
    simp [ih hys]

/-- Wrapping, `ZZ_DEC` always answers a value (R72). -/
theorem zzDec_wraps (pre code : Word) : ∃ v, zzDec false pre code = .ok v := by
  unfold zzDec fit32
  split <;> simp

/-- Range-checked, `ZZ_DEC` has a range event or answers the value that the wrapping form answers (R72). -/
theorem zzDec_checked_cases (pre code : Word) :
    zzDec true pre code = .error .range ∨ zzDec true pre code = zzDec false pre code := by
  unfold zzDec fit32
  split <;> split <;> simp_all

theorem decodedBefore_cons {pre code v : Word} {rest : List Word} (h : zzDec false pre code = .ok v) (k : Nat) :
    decodedBefore pre (code :: rest) (k + 1) = decodedBefore v rest k := by
  induction k with
  | zero => simp [decodedBefore, h, Except.toOption]
  | succ k ih => rw [decodedBefore, ih]; simp [decodedBefore]

/-- Some element has a range event: the first one, or one of the rest, decoded from the value the first gives. -/
theorem decodeRangeEvent_cons {pre code v : Word} {rest : List Word} (h : zzDec false pre code = .ok v) :
    decodeRangeEvent pre (code :: rest) ↔ zzDec true pre code = .error .range ∨ decodeRangeEvent v rest := by
  constructor
  · rintro ⟨k, hk, he⟩
    cases k with
    | zero => exact .inl he
    | succ k => exact .inr ⟨k, by simpa using hk, by simpa [decodedBefore_cons h] using he⟩
  · rintro (he | ⟨k, hk, he⟩)
    · exact ⟨0, by simp, he⟩
    · exact ⟨k + 1, by simpa using hk, by simpa [decodedBefore_cons h] using he⟩

/-- The range-checked inverse delta transform: ERR_RANGE where `ZZ_DEC` has a range event at some element, and else
what the wrapping one answers (R76, R96). -/
theorem deltaZzInv_checked (init : Word) (C : List Word) :
    (decodeRangeEvent init C ∧ deltaZzInv true init C = .error .range) ∨
      (¬ decodeRangeEvent init C ∧ deltaZzInv true init C = deltaZzInv false init C) := by
  unfold deltaZzInv
  induction C generalizing init with
  | nil => exact .inr ⟨by simp [decodeRangeEvent], rfl⟩
  | cons code rest ih =>
    obtain ⟨v, hv⟩ := zzDec_wraps init code
    rw [decodeRangeEvent_cons hv, deltaDecFrom, deltaDecFrom]
    rcases zzDec_checked_cases init code with he | he
    · exact .inl ⟨.inl he, by simp [he]⟩
    · have hn : zzDec true init code ≠ .error .range := by simp [he, hv]
      rcases ih v with ⟨h, hd⟩ | ⟨h, hd⟩
      · exact .inl ⟨.inr h, by simp [he, hv, hd]⟩
      · exact .inr ⟨by simp [hn, h], by simp [he, hv, hd]⟩

theorem tsmForward_length {fam : Family} {chk : Bool} {S T : List Word} (h : tsmForward fam chk S = .ok T) :
    T.length = S.length := by
  cases fam with
  | van => simp_all [tsmForward, vanIdentity]
  | m1 => obtain ⟨-, rfl⟩ := m1Forward_ok.mp h; simp
  | d1 => simp_all [tsmForward]
  | d1z => exact deltaEncFrom_length h

theorem inverseLeading_length {f : List Word → Except ErrCode (List Word)} {n : Nat} {V out : List Word}
    (hf : ∀ S T, f S = .ok T → T.length = S.length) (h : inverseLeading f n V = .ok out) :
    out.length = V.length := by
  simp only [inverseLeading, bind_eq_ok] at h
  obtain ⟨xs, hxs, h⟩ := h
  obtain rfl := by simpa using h.symm
  have := hf _ _ hxs
  simp only [List.length_append, List.length_take, List.length_drop] at this ⊢
  omega

theorem upCount_ok {bl count bw n : Nat} :
    upCount bl count bw = .ok n ↔ count * 8 / bw ≤ bl ∧ n = count * 8 / bw := by
  unfold upCount
  split <;> simp [eq_comm] <;> omega

theorem upCount_error {bl count bw : Nat} {c : ErrCode} :
    upCount bl count bw = .error c ↔ bl < count * 8 / bw ∧ c = .length := by
  unfold upCount
  split <;> simp [eq_comm] <;> omega

/-- OUT has as many words as V, and at most BL elements were inverted (R119, R120). -/
theorem tsmInverse_spec {fam : Family} {chk : Bool} {bl : Nat} {init : Word} {V : List Word} {count bw : Nat}
    {o : List Word × Nat} (h : tsmInverse fam chk bl init V count bw = .ok o) :
    o.1.length = V.length ∧ o.2 ≤ bl := by
  cases fam with
  | van => simp only [tsmInverse, Except.ok.injEq] at h; subst h; simp
  | d1 => simp only [tsmInverse, Except.ok.injEq] at h; subst h; simp
  | m1 =>
    simp only [tsmInverse, bind_eq_ok, upCount_ok] at h
    obtain ⟨n, ⟨hn, rfl⟩, out, hout, h⟩ := h
    obtain rfl := by simpa using h.symm
    exact ⟨inverseLeading_length (fun _ _ => mapElements_length) hout, hn⟩
  | d1z =>
    simp only [tsmInverse, bind_eq_ok, upCount_ok] at h
    obtain ⟨n, ⟨hn, rfl⟩, out, hout, h⟩ := h
    obtain rfl := by simpa using h.symm
    exact ⟨inverseLeading_length (fun _ _ => deltaDecFrom_length) hout, hn⟩

/-! ### The three command bodies -/

/-- What a transform command does when its body succeeds (R84, R85). -/
theorem xfCommand_ok {self : Bool} {F : List Word → Except ErrCode (List Word)} {seed : List Word → Word}
    {s t : State} :
    xfCommand self F seed s = .ok t ↔
      XfOk self s ∧ ∃ T, F s.xfSource = .ok T ∧
        t = (s.smWrite (s.xfDst self) T).setXfResults s.len (seed s.xfSource) := by
  simp only [xfCommand, bind_eq_ok, xfChecks_ok, Except.ok.injEq]
  constructor
  · rintro ⟨-, h, T, hT, rfl⟩
    exact ⟨h, T, hT, rfl⟩
  · rintro ⟨h, T, hT, rfl⟩
    exact ⟨(), h, T, hT, rfl⟩

/-- Which error a transform command raises: ERR_LENGTH of the checks, or the transform's own. -/
theorem xfCommand_error {self : Bool} {F : List Word → Except ErrCode (List Word)} {seed : List Word → Word}
    {s : State} {c : ErrCode} :
    xfCommand self F seed s = .error c ↔
      (¬ XfOk self s ∧ c = .length) ∨ (XfOk self s ∧ F s.xfSource = .error c) := by
  simp [xfCommand, bind_eq_error, xfChecks_ok, xfChecks_error]

/-- What a PACK does when its body succeeds (R110, R112, R113). -/
theorem packCommand_ok {fam : Family} {bw : Nat} {s t : State} :
    packCommand fam bw s = .ok t ↔
      PkFits s.srcPtr s ∧ bw ≤ 32 ∧
      ∃ T w, tsmForward fam s.params.arithCheck s.packSource = .ok T ∧
        resolveBw s.params fam bw s.packSource T = .ok w ∧
        (answerCompress s.params.ep (tsmCompress fam s.packSource T w)).length ≤ s.byteCap.toNat ∧
        t = (s.bmWrite s.bytePtr.toNat (answerCompress s.params.ep (tsmCompress fam s.packSource T w))).setPackResults
          (BitVec.ofNat 32 (answerCompress s.params.ep (tsmCompress fam s.packSource T w)).length)
          (BitVec.ofNat 8 w) (tsmSeed fam s.packSource) := by
  simp only [packCommand, bind_eq_ok, pkChecks_ok, requestCompress_ok, Except.ok.injEq]
  constructor
  · rintro ⟨-, ⟨hf, hb⟩, T, hT, w, hw, B, ⟨hB, rfl⟩, rfl⟩
    exact ⟨hf, hb, T, w, hT, hw, hB, rfl⟩
  · rintro ⟨hf, hb, T, w, hT, hw, hB, rfl⟩
    exact ⟨(), ⟨hf, hb⟩, T, hT, w, hw, _, ⟨hB, rfl⟩, rfl⟩

/-- Which error a PACK raises, in the order of its rules (R110, R112, R113). -/
theorem packCommand_error {fam : Family} {bw : Nat} {s : State} {c : ErrCode} :
    packCommand fam bw s = .error c ↔
      (¬ PkFits s.srcPtr s ∧ c = .length) ∨ (PkFits s.srcPtr s ∧ 32 < bw ∧ c = .width) ∨
      (PkFits s.srcPtr s ∧ bw ≤ 32 ∧
        (tsmForward fam s.params.arithCheck s.packSource = .error c ∨
          ∃ T, tsmForward fam s.params.arithCheck s.packSource = .ok T ∧
            (resolveBw s.params fam bw s.packSource T = .error c ∨
              ∃ w, resolveBw s.params fam bw s.packSource T = .ok w ∧
                s.byteCap.toNat < (answerCompress s.params.ep (tsmCompress fam s.packSource T w)).length ∧
                c = .packer))) := by
  simp only [packCommand, bind_eq_error, pkChecks_ok, pkChecks_error, requestCompress_error, reduceCtorEq,
    and_false, exists_false, or_false]
  constructor
  · rintro (h | ⟨-, ⟨hf, hb⟩, h⟩)
    · exact h.imp_right .inl
    · exact .inr (.inr ⟨hf, hb, h⟩)
  · rintro (h | h | ⟨hf, hb, h⟩)
    · exact .inl (.inl h)
    · exact .inl (.inr h)
    · exact .inr ⟨(), ⟨hf, hb⟩, h⟩

/-- What an UNPACK does when its body succeeds (R110, R111, R119, R120). -/
theorem unpackCommand_ok {fam : Family} {bw : Nat} {s t : State} :
    unpackCommand fam bw s = .ok t ↔
      PkFits s.dstPtr s ∧ bw ≤ 32 ∧ bw ≠ 0 ∧
      ∃ r o, r = answerDecompress s.params.bl s.params.ep (tsmDecompress fam s.init s.unpackRegion bw) ∧
        r.2.toNat ≤ countLimit s.params.bl s.byteCap.toNat (tsmDecompress fam s.init s.unpackRegion bw) ∧
        tsmInverse fam s.params.arithCheck s.params.bl s.init r.1 r.2.toNat bw = .ok o ∧
        t = (s.smWrite s.dstPtr.toNat o.1).setUnpackResults r.2 (BitVec.ofNat 8 bw) (BitVec.ofNat 32 o.2) := by
  simp only [unpackCommand, bind_eq_ok, pkChecks_ok, upChecks_ok, requestDecompress_ok, Except.ok.injEq]
  constructor
  · rintro ⟨-, ⟨hf, hb⟩, -, hz, r, ⟨hc, rfl⟩, o, ho, rfl⟩
    exact ⟨hf, hb, hz, _, o, rfl, hc, ho, rfl⟩
  · rintro ⟨hf, hb, hz, r, o, rfl, hc, ho, rfl⟩
    exact ⟨(), ⟨hf, hb⟩, (), hz, _, ⟨hc, rfl⟩, o, ho, rfl⟩

/-- Which error an UNPACK raises, in the order of its rules (R110, R111, R120). -/
theorem unpackCommand_error {fam : Family} {bw : Nat} {s : State} {c : ErrCode} :
    unpackCommand fam bw s = .error c ↔
      (¬ PkFits s.dstPtr s ∧ c = .length) ∨ (PkFits s.dstPtr s ∧ 32 < bw ∧ c = .width) ∨
      (PkFits s.dstPtr s ∧ bw = 0 ∧ c = .zeroWidth) ∨
      (PkFits s.dstPtr s ∧ bw ≤ 32 ∧ bw ≠ 0 ∧
        ∃ r, r = answerDecompress s.params.bl s.params.ep (tsmDecompress fam s.init s.unpackRegion bw) ∧
          ((countLimit s.params.bl s.byteCap.toNat (tsmDecompress fam s.init s.unpackRegion bw) < r.2.toNat ∧
              c = .packer) ∨
            (r.2.toNat ≤ countLimit s.params.bl s.byteCap.toNat (tsmDecompress fam s.init s.unpackRegion bw) ∧
              tsmInverse fam s.params.arithCheck s.params.bl s.init r.1 r.2.toNat bw = .error c))) := by
  simp only [unpackCommand, bind_eq_error, pkChecks_ok, pkChecks_error, upChecks_ok, upChecks_error,
    requestDecompress_ok, requestDecompress_error, reduceCtorEq]
  constructor
  · rintro (h | ⟨-, ⟨hf, hb⟩, ⟨hz, rfl⟩ | ⟨-, hz, h | ⟨r, ⟨hc, rfl⟩, h⟩⟩⟩)
    · exact h.imp_right .inl
    · exact .inr (.inr (.inl ⟨hf, hz, rfl⟩))
    · exact .inr (.inr (.inr ⟨hf, hb, hz, _, rfl, .inl h⟩))
    · exact .inr (.inr (.inr ⟨hf, hb, hz, _, rfl, .inr ⟨hc, by simpa using h⟩⟩))
  · rintro (h | h | ⟨hf, hz, rfl⟩ | ⟨hf, hb, hz, r, rfl, h | ⟨hc, h⟩⟩)
    · exact .inl (.inl h)
    · exact .inl (.inr h)
    · exact .inr ⟨(), ⟨hf, by omega⟩, .inl ⟨hz, rfl⟩⟩
    · exact .inr ⟨(), ⟨hf, hb⟩, .inr ⟨(), hz, .inl h⟩⟩
    · exact .inr ⟨(), ⟨hf, hb⟩, .inr ⟨(), hz, .inr ⟨_, ⟨hc, rfl⟩, by simpa using h⟩⟩⟩

end Sys2Proof.Machine
end

