-- ==== Sys2Proof/Laws/Machine.lean ====
section
/-! SUPPORT. What `exec`, a host access, the TU's turn and `step` can do, said once each. -/

namespace Sys2Proof.Machine

/-! ### Commands -/

/-- The body of each command, up to its completion step. -/
def commandBody (s : State) : Instr → Except ErrCode State
  | .xfVanFwd => xfCommand false vanIdentity noSeed s
  | .xfVanFwdSelf => xfCommand true vanIdentity noSeed s
  | .xfVanInv => xfCommand false vanIdentity noSeed s
  | .xfVanInvSelf => xfCommand true vanIdentity noSeed s
  | .xfM1Fwd => xfCommand false m1Forward noSeed s
  | .xfM1FwdSelf => xfCommand true m1Forward noSeed s
  | .xfM1Inv => xfCommand false (m1Inverse s.params.arithCheck) noSeed s
  | .xfM1InvSelf => xfCommand true (m1Inverse s.params.arithCheck) noSeed s
  | .xfD1zFwd => xfCommand false (deltaZzFwd s.params.arithCheck) seedOf s
  | .xfD1zFwdSelf => xfCommand true (deltaZzFwd s.params.arithCheck) seedOf s
  | .xfD1zInv => xfCommand false (deltaZzInv s.params.arithCheck s.init) noSeed s
  | .xfD1zInvSelf => xfCommand true (deltaZzInv s.params.arithCheck s.init) noSeed s
  | .packVan bw => packCommand .van bw s
  | .packM1 bw => packCommand .m1 bw s
  | .packD1 bw => packCommand .d1 bw s
  | .packD1z bw => packCommand .d1z bw s
  | .unpackVan bw => unpackCommand .van bw s
  | .unpackM1 bw => unpackCommand .m1 bw s
  | .unpackD1 bw => unpackCommand .d1 bw s
  | .unpackD1z bw => unpackCommand .d1z bw s

/-- Every command is its body and the completion step. -/
theorem exec_eq_finish (i : Instr) (s : State) : exec i s = finish s (commandBody s i) := by
  cases i <;> rfl

/-- Every command body is one of the three shared ones. -/
theorem commandBody_cases (s : State) (i : Instr) :
    (∃ self F seed, commandBody s i = xfCommand self F seed s ∧ ∀ S T, F S = .ok T → T.length = S.length) ∨
    (∃ fam bw, commandBody s i = packCommand fam bw s) ∨
    (∃ fam bw, commandBody s i = unpackCommand fam bw s) := by
  have hv : ∀ S T, vanIdentity S = .ok T → T.length = S.length := by
    intro S T h; simp_all [vanIdentity]
  have hm : ∀ S T, m1Forward S = .ok T → T.length = S.length := by
    intro S T h; obtain ⟨-, rfl⟩ := m1Forward_ok.mp h; simp
  cases i with
  | xfVanFwd => exact .inl ⟨_, _, _, rfl, hv⟩
  | xfVanFwdSelf => exact .inl ⟨_, _, _, rfl, hv⟩
  | xfVanInv => exact .inl ⟨_, _, _, rfl, hv⟩
  | xfVanInvSelf => exact .inl ⟨_, _, _, rfl, hv⟩
  | xfM1Fwd => exact .inl ⟨_, _, _, rfl, hm⟩
  | xfM1FwdSelf => exact .inl ⟨_, _, _, rfl, hm⟩
  | xfM1Inv => exact .inl ⟨_, _, _, rfl, fun _ _ => mapElements_length⟩
  | xfM1InvSelf => exact .inl ⟨_, _, _, rfl, fun _ _ => mapElements_length⟩
  | xfD1zFwd => exact .inl ⟨_, _, _, rfl, fun _ _ => deltaEncFrom_length⟩
  | xfD1zFwdSelf => exact .inl ⟨_, _, _, rfl, fun _ _ => deltaEncFrom_length⟩
  | xfD1zInv => exact .inl ⟨_, _, _, rfl, fun _ _ => deltaDecFrom_length⟩
  | xfD1zInvSelf => exact .inl ⟨_, _, _, rfl, fun _ _ => deltaDecFrom_length⟩
  | packVan bw => exact .inr (.inl ⟨.van, bw, rfl⟩)
  | packM1 bw => exact .inr (.inl ⟨.m1, bw, rfl⟩)
  | packD1 bw => exact .inr (.inl ⟨.d1, bw, rfl⟩)
  | packD1z bw => exact .inr (.inl ⟨.d1z, bw, rfl⟩)
  | unpackVan bw => exact .inr (.inr ⟨.van, bw, rfl⟩)
  | unpackM1 bw => exact .inr (.inr ⟨.m1, bw, rfl⟩)
  | unpackD1 bw => exact .inr (.inr ⟨.d1, bw, rfl⟩)
  | unpackD1z bw => exact .inr (.inr ⟨.d1z, bw, rfl⟩)

/-! ### The register map -/

@[simp] theorem Reg.ofOffset_offset (r : Reg) : Reg.ofOffset r.offset = some r := by
  cases r <;> rfl

theorem Reg.offset_lt (r : Reg) : r.offset < 0x40 := by
  cases r <;> decide

theorem Reg.ofOffset_some {off : Nat} {r : Reg} (h : Reg.ofOffset off = some r) : off = r.offset :=
  (beq_iff_eq.mp (List.find?_some (p := fun r : Reg => r.offset == off) h)).symm

@[simp] theorem regAt_regAddr (p : Params) (r : Reg) : regAt p (p.regAddr r) = .ok r := by
  have h := r.offset_lt
  have : ¬ (p.regAddr r < p.regBase ∨ p.regBase + 0x40 ≤ p.regAddr r) := by
    unfold Params.regAddr; omega
  have e : p.regAddr r - p.regBase = r.offset := by unfold Params.regAddr; omega
  rw [regAt, if_neg this, e, Reg.ofOffset_offset]

/-- An access reaches a register exactly at the register's address. -/
theorem regAt_ok {p : Params} {addr : Nat} {r : Reg} : regAt p addr = .ok r ↔ addr = p.regAddr r := by
  constructor
  · intro h
    unfold regAt at h
    split at h
    · cases h
    · next hb =>
      split at h
      · next r' hr =>
        obtain rfl : r' = r := by simpa using h
        have := Reg.ofOffset_some hr
        unfold Params.regAddr
        omega
      · cases h
  · rintro rfl
    exact regAt_regAddr p r

/-- The inversion lemma of a host write of a register. -/
theorem State.writeReg_cases (s : State) (r : Reg) (v : Word) :
    (s.busy = true ∧ s.writeReg r v = s) ∨
    (s.busy = false ∧
      ((r = .cmd ∧ s.writeReg r v = { s with cmd := v }) ∨ (r = .len ∧ s.writeReg r v = { s with len := v }) ∨
       (r = .srcPtr ∧ s.writeReg r v = { s with srcPtr := v }) ∨
       (r = .dstPtr ∧ s.writeReg r v = { s with dstPtr := v }) ∨
       (r = .bytePtr ∧ s.writeReg r v = { s with bytePtr := v }) ∨
       (r = .byteCap ∧ s.writeReg r v = { s with byteCap := v }) ∨
       (r = .init ∧ s.writeReg r v = { s with init := v }) ∨
       (r = .ctrl ∧ v.getLsbD 0 = true ∧ s.writeReg r v = s.acceptGo) ∨
       (r = .ctrl ∧ v.getLsbD 0 = false ∧ s.writeReg r v = s) ∨
       (0x20 ≤ r.offset ∧ s.writeReg r v = s))) := by
  by_cases hb : s.busy = true
  · exact .inl ⟨hb, by simp [State.writeReg, hb]⟩
  · refine .inr ⟨by simpa using hb, ?_⟩
    cases hv : v.getLsbD 0 <;> cases r <;>
      simp [State.writeReg, State.writeCtrl, hb, hv, Reg.offset, -BitVec.getLsbD_eq_getElem]

/-- The inversion lemma of a host access: a next state is the answer of a read or the effect of a write. -/
theorem hostAccess_next {a : HostAccess} {s t : State} (h : hostAccess a s = .next t) :
    s.resetLine = false ∧
    ((∃ r, a = .regRead (s.params.regAddr r) ∧ t = s.setReply (.word (s.readReg r))) ∨
     (∃ r v, a = .regWrite (s.params.regAddr r) v ∧ t = s.writeReg r v) ∨
     (∃ i, a = .smRead i ∧ i < s.params.smWords ∧ t = s.hostSmRead i) ∨
     (∃ i v, a = .smWrite i v ∧ i < s.params.smWords ∧ t = s.hostSmWrite i v) ∨
     (∃ j, a = .bmRead j ∧ j < s.params.bmBytes ∧ t = s.hostBmRead j) ∨
     (∃ j v, a = .bmWrite j v ∧ j < s.params.bmBytes ∧ t = s.hostBmWrite j v)) := by
  unfold hostAccess at h
  split at h
  · cases h
  · next hr =>
    refine ⟨by simpa using hr, ?_⟩
    cases a with
    | regRead addr =>
      simp only at h
      split at h
      · next r ha => exact .inl ⟨r, by rw [regAt_ok.mp ha], by simpa using h.symm⟩
      · cases h
    | regWrite addr v =>
      simp only at h
      split at h
      · next r ha => exact .inr (.inl ⟨r, v, by rw [regAt_ok.mp ha], by simpa using h.symm⟩)
      · cases h
    | smRead i =>
      simp only at h
      split at h
      · next hi => exact .inr (.inr (.inl ⟨i, rfl, hi, by simpa using h.symm⟩))
      · cases h
    | smWrite i v =>
      simp only at h
      split at h
      · next hi => exact .inr (.inr (.inr (.inl ⟨i, v, rfl, hi, by simpa using h.symm⟩)))
      · cases h
    | bmRead j =>
      simp only at h
      split at h
      · next hj => exact .inr (.inr (.inr (.inr (.inl ⟨j, rfl, hj, by simpa using h.symm⟩))))
      · cases h
    | bmWrite j v =>
      simp only at h
      split at h
      · next hj => exact .inr (.inr (.inr (.inr (.inr ⟨j, v, rfl, hj, by simpa using h.symm⟩))))
      · cases h
    | otherWidth b addr => cases h

/-- The inversion lemma of a turn of the TU. -/
theorem tuTurn_next {s t : State} (h : tuTurn s = .next t) :
    (s.phase = .idle ∧ t = s) ∨
    (s.phase = .run ∧ decode s.cmd = none ∧ t = s.completeErr .illegal) ∨
    (s.phase = .run ∧ ∃ i, decode s.cmd = some i ∧ exec i s = .next t) := by
  unfold tuTurn at h
  split at h
  · next hp => exact .inl ⟨hp, by simpa using h.symm⟩
  · next hp =>
    unfold runCommand at h
    split at h
    · next i hi => exact .inr (.inr ⟨hp, i, hi, h⟩)
    · next hn => exact .inr (.inl ⟨hp, hn, by simpa using h.symm⟩)

/-- The inversion lemma of a step. -/
theorem step_next {s t : State} (h : step s = .next t) :
    (∃ rest, s.tuNext rest ∧ tuTurn (s.setInputs rest) = .next t) ∨
    (∃ a rest, s.inputs = .access a :: rest ∧ hostAccess a (s.setInputs rest) = .next t) ∨
    (∃ b rest, s.inputs = .resetLine b :: rest ∧ t = (s.setInputs rest).setResetLine b) := by
  unfold step at h
  split at h
  · next hi =>
    have e : s.setInputs [] = s := by unfold State.setInputs; rw [← hi]
    exact .inl ⟨[], .inr ⟨hi, rfl⟩, by rw [e]; exact h⟩
  · next rest hi => exact .inl ⟨rest, .inl hi, h⟩
  · next a rest hi => exact .inr (.inl ⟨a, rest, hi, h⟩)
  · next b rest hi => exact .inr (.inr ⟨b, rest, hi, by simpa using h.symm⟩)

theorem State.setResetLine_true (s : State) :
    s.setResetLine true = { s.resetRegisters with resetLine := true } := rfl

theorem State.setResetLine_false (s : State) : s.setResetLine false = { s with resetLine := false } := rfl

end Sys2Proof.Machine
end

