-- ==== Sys2Proof/Laws/PerInstr.lean ====
section
/-! SUPPORT. The family OpcodeRow of statements about each command as syntax: its word is the row of the opcode
table of 30_encoding.md R59, the match in bits [7:0], the operand BW in bits [15:8], and zeros above. -/

namespace Sys2Proof.Laws

/-- The match of a command's row in R59. -/
def opcodeMatch : Instr → BitVec 8
  | .xfVanFwd => 0x00#8
  | .xfVanFwdSelf => 0x10#8
  | .xfVanInv => 0x04#8
  | .xfVanInvSelf => 0x14#8
  | .xfM1Fwd => 0x01#8
  | .xfM1FwdSelf => 0x11#8
  | .xfM1Inv => 0x05#8
  | .xfM1InvSelf => 0x15#8
  | .xfD1zFwd => 0x03#8
  | .xfD1zFwdSelf => 0x13#8
  | .xfD1zInv => 0x07#8
  | .xfD1zInvSelf => 0x17#8
  | .packVan _ => 0x08#8
  | .packM1 _ => 0x09#8
  | .packD1 _ => 0x0A#8
  | .packD1z _ => 0x0B#8
  | .unpackVan _ => 0x0C#8
  | .unpackM1 _ => 0x0D#8
  | .unpackD1 _ => 0x0E#8
  | .unpackD1z _ => 0x0F#8

/-- The word of `i` is its row of R59. -/
def OpcodeRow.Statement (i : Instr) : Prop :=
  encode i = (0#16 ++ BitVec.ofNat 8 i.bw ++ opcodeMatch i : BitVec 32)

/-- The fields of R56 put together, with the low byte read as one match. -/
theorem packFields_eq (bw : BitVec 8) (self cls dir : BitVec 1) (fam : BitVec 2) :
    packFields bw self cls dir fam = (0#16 ++ bw ++ (0#3 ++ self ++ cls ++ dir ++ fam : BitVec 8) : BitVec 32) := by
  ext k hk
  unfold packFields
  grind

namespace OpcodeRow

theorem xfVanFwd : Statement .xfVanFwd := by rfl
theorem xfVanFwdSelf : Statement .xfVanFwdSelf := by rfl
theorem xfVanInv : Statement .xfVanInv := by rfl
theorem xfVanInvSelf : Statement .xfVanInvSelf := by rfl
theorem xfM1Fwd : Statement .xfM1Fwd := by rfl
theorem xfM1FwdSelf : Statement .xfM1FwdSelf := by rfl
theorem xfM1Inv : Statement .xfM1Inv := by rfl
theorem xfM1InvSelf : Statement .xfM1InvSelf := by rfl
theorem xfD1zFwd : Statement .xfD1zFwd := by rfl
theorem xfD1zFwdSelf : Statement .xfD1zFwdSelf := by rfl
theorem xfD1zInv : Statement .xfD1zInv := by rfl
theorem xfD1zInvSelf : Statement .xfD1zInvSelf := by rfl
theorem packVan (bw : Nat) : Statement (.packVan bw) := packFields_eq _ _ _ _ _
theorem packM1 (bw : Nat) : Statement (.packM1 bw) := packFields_eq _ _ _ _ _
theorem packD1 (bw : Nat) : Statement (.packD1 bw) := packFields_eq _ _ _ _ _
theorem packD1z (bw : Nat) : Statement (.packD1z bw) := packFields_eq _ _ _ _ _
theorem unpackVan (bw : Nat) : Statement (.unpackVan bw) := packFields_eq _ _ _ _ _
theorem unpackM1 (bw : Nat) : Statement (.unpackM1 bw) := packFields_eq _ _ _ _ _
theorem unpackD1 (bw : Nat) : Statement (.unpackD1 bw) := packFields_eq _ _ _ _ _
theorem unpackD1z (bw : Nat) : Statement (.unpackD1z bw) := packFields_eq _ _ _ _ _

end OpcodeRow

end Sys2Proof.Laws
end

