-- ==== Sys2Proof/Laws/TestPacker.lean ====
section
/-! SUPPORT. TEST-EP of 95_test_vectors.md section 1 meets the five assumptions EP-EST, EP-EST-S, EP-RT, EP-RT-S and
EP-LEN, so the statements that assume them speak of a packer that exists. -/

namespace Sys2Proof.Machine

theorem bitsToNat_testBit (n : Nat) (f : Nat → Bool) (k : Nat) :
    (bitsToNat n f).testBit k = (decide (k < n) && f k) := by
  induction n generalizing f k with
  | zero => simp [bitsToNat]
  | succ n ih =>
    cases k with
    | zero =>
      cases h : f 0 <;> simp [bitsToNat, h, Nat.testBit_zero, Nat.add_mod]
    | succ k =>
      have : (bitsToNat (n + 1) f) / 2 = bitsToNat n (fun k => f (k + 1)) := by
        cases h : f 0 <;> simp only [bitsToNat, h, Bool.toNat_true, Bool.toNat_false] <;> omega
      rw [Nat.testBit_succ, this, ih]
      simp

theorem bitsToNat_lt (n : Nat) (f : Nat → Bool) : bitsToNat n f < 2 ^ n := by
  induction n generalizing f with
  | zero => simp [bitsToNat]
  | succ n ih =>
    have h := ih (fun k => f (k + 1))
    have : (f 0).toNat ≤ 1 := by cases f 0 <;> simp
    simp only [bitsToNat]
    omega

/-- `width(v)` is the least width in [0, 32] that holds every value. -/
theorem testWidth_spec (v : List Word) :
    testWidth v ≤ 32 ∧ valuesBelow (testWidth v) v ∧ ∀ b, b ≤ 32 → valuesBelow b v → testWidth v ≤ b := by
  have h32 : ∀ x : Word, x.toNat < 2 ^ 32 := fun x => x.isLt
  obtain ⟨w, hw⟩ : ∃ w, (List.range 33).find? (fun w => v.all (fun x => decide (x.toNat < 2 ^ w))) = some w := by
    rw [← Option.isSome_iff_exists, List.find?_isSome]
    exact ⟨32, by simp, by simpa using fun x _ => h32 x⟩
  have e : testWidth v = w := by simp [testWidth, hw]
  rw [List.find?_range_eq_some] at hw
  obtain ⟨h1, h2, h3⟩ := hw
  rw [e]
  refine ⟨by simp at h2; omega, by simpa [valuesBelow] using h1, fun b hb hv => ?_⟩
  by_contra hlt
  have := h3 b (by omega)
  simp only [valuesBelow] at hv
  simp at this
  obtain ⟨x, hx, hge⟩ := this
  have := hv x hx
  omega

theorem testWidth_byte (v : List Word) : (BitVec.ofNat 8 (testWidth v)).toNat = testWidth v := by
  have := (testWidth_spec v).1
  simp only [BitVec.toNat_ofNat]
  omega

theorem testDelta_length (init : Word) (v : List Word) : (testDelta init v).length = v.length := by
  induction v generalizing init with
  | nil => rfl
  | cons x xs ih => simp [testDelta, ih]

theorem testCompress_length (bl : Nat) (v : List Word) (b : Nat) : (testCompress bl v b).length = bl * b / 8 := by
  simp [testCompress]

/-- Where the bytes begin with the compressed bytes, an element reads back its value modulo 2^b. -/
theorem testElement_compress {bl b : Nat} {v : List Word} {P : List Byte} (h8 : bl % 8 = 0) (hb : 1 ≤ b)
    (hb' : b ≤ 32) (hP : testCompress bl v b <+: P) {i : Nat} (hi : i < bl)
    (hx : (v.getD i 0#32).toNat < 2 ^ b) : testElement bl P b i = v.getD i 0#32 := by
  have hlen := hP.length_le
  rw [testCompress_length] at hlen
  have hcnt : testCount bl P b = bl * b / 8 := by unfold testCount; omega
  have h88 : bl * b / 8 * 8 = bl * b := by
    have : 8 ∣ bl * b := Dvd.dvd.mul_right (Nat.dvd_of_mod_eq_zero h8) b
    omega
  have hib : i * b + b ≤ bl * b := by
    have : (i + 1) * b ≤ bl * b := Nat.mul_le_mul_right b hi
    rwa [Nat.add_mul, Nat.one_mul] at this
  have key : bitsToNat b (fun k =>
      decide ((i * b + k) / 8 < testCount bl P b) &&
        (P.getD ((i * b + k) / 8) 0#8).getLsbD ((i * b + k) % 8)) = (v.getD i 0#32).toNat := by
    refine Nat.eq_of_testBit_eq fun k => ?_
    rw [bitsToNat_testBit]
    by_cases hk : k < b
    · have hj : (i * b + k) / 8 < bl * b / 8 := by omega
      have hg : P.getD ((i * b + k) / 8) 0#8 = (testCompress bl v b).getD ((i * b + k) / 8) 0#8 := by
        obtain ⟨Q, rfl⟩ := hP
        rw [List.getD_append _ _ _ _ (by rw [testCompress_length]; exact hj)]
      have hbyte : (testCompress bl v b).getD ((i * b + k) / 8) 0#8 =
          BitVec.ofNat 8 (bitsToNat 8 (fun t => testBit v b (8 * ((i * b + k) / 8) + t))) := by
        simp [testCompress, List.getD_eq_getElem?_getD, hj]
      have hpos : 8 * ((i * b + k) / 8) + (i * b + k) % 8 = i * b + k := by omega
      have hdiv : (i * b + k) / b = i := by
        rw [Nat.mul_comm, Nat.mul_add_div (by omega), Nat.div_eq_of_lt hk, Nat.add_zero]
      have hmod : (i * b + k) % b = k := by
        rw [Nat.mul_comm, Nat.mul_add_mod, Nat.mod_eq_of_lt hk]
      have hm8 : (i * b + k) % 8 < 8 := Nat.mod_lt _ (by omega)
      rw [hcnt, hg, hbyte, BitVec.getLsbD_ofNat, bitsToNat_testBit, hpos, testBit, hdiv, hmod,
        Nat.mod_eq_of_lt hx]
      simp [hk, hj, hm8]
    · have : (v.getD i 0#32).toNat.testBit k = false :=
        Nat.testBit_lt_two_pow (lt_of_lt_of_le hx (Nat.pow_le_pow_right (by omega) (by omega)))
      rw [this]
      simp [hk]
  unfold testElement
  rw [key, BitVec.ofNat_toNat, BitVec.setWidth_eq]

theorem eq_blockValues {bl : Nat} {v : List Word} {f : Nat → Word} (hv : v.length = bl)
    (h : ∀ i, i < bl → f i = v.getD i 0#32) : blockValues bl f = v := by
  apply List.ext_getElem
  · simp [hv]
  · intro i h1 h2
    simp only [blockValues, List.getElem_map, List.getElem_range]
    rw [h i (by omega), List.getD_eq_getElem _ _ h2]

theorem valuesBelow_getD {b : Nat} {v : List Word} (h : valuesBelow b v) (i : Nat) : (v.getD i 0#32).toNat < 2 ^ b := by
  by_cases hi : i < v.length
  · rw [List.getD_eq_getElem _ _ hi]
    exact h _ (List.getElem_mem hi)
  · rw [List.getD_eq_default _ _ (by omega)]
    simp

/-- On sorted input the wrapping deltas are the exact differences. -/
theorem valuesBelow_testDelta {b : Nat} (init : Word) (v : List Word) (hs : sortedFrom init v) :
    valuesBelow b (testDelta init v) ↔ diffsBelow b init v := by
  induction v generalizing init with
  | nil => simp [testDelta, valuesBelow, diffsBelow]
  | cons x xs ih =>
    have hle : init.toNat ≤ x.toNat := hs.1
    have e : (x - init).toNat = x.toNat - init.toNat := BitVec.toNat_sub_of_le hs.1
    have : (x - init).toNat < 2 ^ b ↔ (x.toNat : Int) - init.toNat < 2 ^ b := by
      rw [e]
      constructor
      · intro h
        have : ((x.toNat - init.toNat : Nat) : Int) < ((2 ^ b : Nat) : Int) := by exact_mod_cast h
        push_cast at this
        omega
      · intro h
        have : ((x.toNat - init.toNat : Nat) : Int) < ((2 ^ b : Nat) : Int) := by
          push_cast
          omega
        exact_mod_cast this
    rw [diffsBelow, ← this, ← ih x hs.2]
    simp [testDelta, valuesBelow]

/-- The running sums of the deltas are the values. -/
theorem testPrefix_testDelta (init : Word) (v : List Word) (i : Nat) (hi : i < v.length) :
    testPrefix init (fun k => (testDelta init v).getD k 0#32) i = v.getD i 0#32 := by
  have step : ∀ (v : List Word) (init : Word) (k : Nat), k < v.length →
      (testDelta init v).getD k 0#32 = v.getD k 0#32 - (init :: v).getD k 0#32 := by
    intro v
    induction v with
    | nil => intro _ k h; simp at h
    | cons x xs ih =>
      intro init k h
      cases k with
      | zero => simp [testDelta]
      | succ k => simpa [testDelta] using ih x k (by simpa using h)
  induction i with
  | zero =>
    rw [testPrefix, step v init 0 hi]
    simp
  | succ i ih =>
    rw [testPrefix, ih (by omega), step v init (i + 1) hi]
    simp

theorem testPrefix_congr {init : Word} {d e : Nat → Word} {i : Nat} (h : ∀ k, k ≤ i → d k = e k) :
    testPrefix init d i = testPrefix init e i := by
  induction i with
  | zero => simp [testPrefix, h 0]
  | succ i ih => rw [testPrefix, testPrefix, ih fun k hk => h k (by omega), h (i + 1) le_rfl]

/-- TEST-EP meets the assumptions of 42_packer_interface.md R105 to R109. -/
theorem testEp_meets {bl : Nat} (h8 : bl % 8 = 0) (hbl : bl ≤ 2 ^ 24 - 1) : EpMeets bl (testEp bl) where
  est := fun v _ => by
    show (BitVec.ofNat 8 (testWidth v)).toNat ≤ 32 ∧ _
    simpa only [testEp, testWidth_byte] using testWidth_spec v
  estS := fun init v _ hs => by
    have h := testWidth_spec (testDelta init v)
    simp only [valuesBelow_testDelta init v hs] at h
    simpa only [testEp, testWidth_byte] using h
  rt := fun b v P hb hb' hv hbelow hP => by
    have hlen := List.IsPrefix.length_le hP
    simp only [testEp, testCompress_length] at hlen ⊢
    refine ⟨eq_blockValues hv fun i hi =>
      testElement_compress h8 hb hb' hP hi (valuesBelow_getD hbelow i), ?_⟩
    have hc : testCount bl P b = bl * b / 8 := by unfold testCount; omega
    have : bl * b ≤ (2 ^ 24 - 1) * 32 := Nat.mul_le_mul hbl hb'
    rw [hc, BitVec.toNat_ofNat, Nat.mod_eq_of_lt (by omega)]
  rtS := fun b init v P hb hb' hv hs hd hP => by
    have hbelow := (valuesBelow_testDelta init v hs).mpr hd
    refine ⟨eq_blockValues hv fun i hi => ?_, ?_⟩
    · have := testPrefix_testDelta init v i (by omega)
      rw [← this]
      exact testPrefix_congr fun k hk =>
        testElement_compress h8 hb hb' hP (by omega) (valuesBelow_getD hbelow k)
    · simp only [testEp, BitVec.toNat_ofNat]
      exact Nat.mod_eq_of_lt (by omega)
  len := fun b _ _ => ⟨fun v _ => testCompress_length bl v b, fun init v _ => testCompress_length bl _ b⟩

end Sys2Proof.Machine
end

