-- ==== Sys2Proof/Tests/Slice0.lean ====
section
/-! SUPPORT. Tests: words written out from 30_encoding.md, vectors of 95_test_vectors.md, and for every statement
with premises a state and operands that meet them (the theorems `witness_…`, named after the statement). -/

/- One test at a time: many kernel evaluations waiting at once would each hold a thread. -/
set_option Elab.async false

namespace Sys2Proof.Tests

open Sys2Proof Sys2Proof.Machine

/-! ### The well-formedness check -/

theorem test_wellFormed_refuses_256 :
    [Instr.packVan 256, .packM1 256, .packD1 256, .packD1z 256, .unpackVan 256, .unpackM1 256, .unpackD1 256,
      .unpackD1z 256].all (fun i => i.wellFormed == false) = true := by decide

theorem test_wellFormed_accepts : (Instr.packVan 255).wellFormed = true ∧ Instr.xfVanFwd.wellFormed = true := by
  decide

/-! ### Decoding: one word for each row of R59, its fields RSV1, BW, RSV0, SELF, CLASS, DIR, FAM written out -/

theorem test_decode_xf_van :
    decode 0b0000000000000000_00000000_000_0_0_0_00#32 = some .xfVanFwd ∧
    decode 0b0000000000000000_00000000_000_1_0_0_00#32 = some .xfVanFwdSelf ∧
    decode 0b0000000000000000_00000000_000_0_0_1_00#32 = some .xfVanInv ∧
    decode 0b0000000000000000_00000000_000_1_0_1_00#32 = some .xfVanInvSelf := by decide

theorem test_decode_xf_m1 :
    decode 0b0000000000000000_00000000_000_0_0_0_01#32 = some .xfM1Fwd ∧
    decode 0b0000000000000000_00000000_000_1_0_0_01#32 = some .xfM1FwdSelf ∧
    decode 0b0000000000000000_00000000_000_0_0_1_01#32 = some .xfM1Inv ∧
    decode 0b0000000000000000_00000000_000_1_0_1_01#32 = some .xfM1InvSelf := by decide

theorem test_decode_xf_d1z :
    decode 0b0000000000000000_00000000_000_0_0_0_11#32 = some .xfD1zFwd ∧
    decode 0b0000000000000000_00000000_000_1_0_0_11#32 = some .xfD1zFwdSelf ∧
    decode 0b0000000000000000_00000000_000_0_0_1_11#32 = some .xfD1zInv ∧
    decode 0b0000000000000000_00000000_000_1_0_1_11#32 = some .xfD1zInvSelf := by decide

theorem test_decode_pack :
    decode 0b0000000000000000_00000000_000_0_1_0_00#32 = some (.packVan 0) ∧
    decode 0b0000000000000000_00100000_000_0_1_0_01#32 = some (.packM1 32) ∧
    decode 0b0000000000000000_00000011_000_0_1_0_10#32 = some (.packD1 3) ∧
    decode 0b0000000000000000_00100001_000_0_1_0_11#32 = some (.packD1z 33) := by decide

theorem test_decode_unpack :
    decode 0b0000000000000000_11111111_000_0_1_1_00#32 = some (.unpackVan 255) ∧
    decode 0b0000000000000000_00000011_000_0_1_1_01#32 = some (.unpackM1 3) ∧
    decode 0b0000000000000000_10000001_000_0_1_1_10#32 = some (.unpackD1 129) ∧
    decode 0b0000000000000000_00100000_000_0_1_1_11#32 = some (.unpackD1z 32) := by decide

/-- The illegal words of 95_test_vectors.md section 3, and every low byte that R60 b and d name. -/
theorem test_decode_illegal :
    [0x00000002#32, 0x00000006#32, 0x00000012#32, 0x00000016#32, 0x00000100#32, 0x00002100#32, 0x00000020#32,
      0x00010000#32, 0x80000008#32, 0x00000518#32, 0x00000018#32, 0x00000019#32, 0x0000001A#32, 0x0000001B#32,
      0x0000001C#32, 0x0000001D#32, 0x0000001E#32, 0x0000001F#32].all (fun w => (decode w).isNone) = true := by
  decide

theorem test_encode_words :
    encode .xfD1zInvSelf = 0x00000017#32 ∧ encode (.packVan 5) = 0x00000508#32 ∧
    encode (.unpackM1 3) = 0x0000030D#32 ∧ encode (.unpackD1z 32) = 0x0000200F#32 := by decide

theorem test_decodeTableWord :
    decodeTableWord 32 0x30D = some (.unpackM1 3) ∧ decodeTableWord 8 0x17 = some .xfD1zInvSelf ∧
    decodeTableWord 32 0x16 = none := by decide

/-! ### The element datapath (95_test_vectors.md section 4) -/

theorem test_ofs_inv :
    ofsInv false 0#32 = .ok 1#32 ∧ ofsInv true 0xFFFFFFFE#32 = .ok 0xFFFFFFFF#32 ∧
    ofsInv false 0xFFFFFFFF#32 = .ok 0#32 ∧ ofsInv true 0xFFFFFFFF#32 = .error .range := by decide

theorem test_ofs_fwd : ofsFwd 1#32 = 0#32 ∧ ofsFwd 0xFFFFFFFF#32 = 0xFFFFFFFE#32 := by decide

theorem test_zz_enc :
    zzEnc true 5#32 7#32 = .ok 4#32 ∧ zzEnc true 7#32 3#32 = .ok 7#32 ∧
    zzEnc true 0x80000000#32 0#32 = .ok 0xFFFFFFFF#32 ∧ zzEnc true 0#32 0x7FFFFFFF#32 = .ok 0xFFFFFFFE#32 ∧
    zzEnc true 0x80000001#32 0#32 = .error .range ∧ zzEnc false 0x80000001#32 0#32 = .ok 1#32 ∧
    zzEnc true 0#32 0x80000000#32 = .error .range ∧ zzEnc false 0#32 0xFFFFFFFF#32 = .ok 0xFFFFFFFE#32 := by
  decide

theorem test_zz_dec :
    zzDec true 5#32 9#32 = .ok 0#32 ∧ zzDec true 0x7FFFFFFF#32 0xFFFFFFFE#32 = .ok 0xFFFFFFFE#32 ∧
    zzDec true 0#32 1#32 = .error .range ∧ zzDec false 1#32 3#32 = .ok 0xFFFFFFFF#32 ∧
    zzDec true 0xFFFFFFFF#32 2#32 = .error .range ∧ zzDec false 0#32 0xFFFFFFFF#32 = .ok 0x80000000#32 := by
  decide

theorem test_delta_forward :
    deltaZzFwd false [0xFFFFFFFF#32, 0xFFFFFFFE#32, 0#32, 1#32] = .ok [0#32, 1#32, 0xFFFFFFFB#32, 2#32] := by
  decide

/-- A range event at the first element, at the second, and none (95_test_vectors.md section 4 and program P5). -/
theorem test_decodeRangeEvent :
    decodeRangeEvent 0#32 [1#32] ∧ decodeRangeEvent 0#32 [2#32, 3#32] ∧ ¬ decodeRangeEvent 5#32 [0#32, 0#32, 4#32, 7#32] ∧
    decodeRangeEvent 0#32 [0#32, 0x80000000#32, 0x80000001#32, 5#32] := by decide

theorem test_delta_inverse :
    deltaZzInv false 6#32 [0#32, 0#32, 4#32, 7#32] = .ok [6#32, 6#32, 8#32, 4#32] := by decide

/-! ### The states the command tests run on -/

/-- The settings of 95_test_vectors.md. -/
def vectorBuild : Params := { Params.reference with packer := .testEp }

/-- The same with ARITH_CHECK = 1. -/
def checkedBuild : Params := { vectorBuild with arithCheck := true }

/-- A running command of a build: SM and BM from index 0 on, DST_PTR = 16, and the operands given. -/
def running (p : Params) (sm : List Word) (bm : List Byte) (len cap init : Word) : State :=
  { ((State.powerOn p).smWrite 0 sm).bmWrite 0 bm with
    len := len, dstPtr := 16#32, byteCap := cap, init := init, busy := true, phase := .run }

/-- The start state of section 5: the source at SM 0, LEN its length. -/
def xfStart (p : Params) (S : List Word) (init : Word) : State :=
  running p S [] (BitVec.ofNat 32 S.length) 0#32 init

/-- The start state of section 6 for PACK: LEN = 8, the source at SM 0. -/
def packStart (p : Params) (S : List Word) (cap : Word) : State := running p S [] 8#32 cap 0#32

/-- The start state of section 6 for UNPACK: LEN = 8, the bytes at BM 0. -/
def unpackStart (p : Params) (bs : List Byte) (cap init : Word) : State := running p [] bs 8#32 cap init

/-- The state a command leads to. -/
def after (i : Instr) (s : State) : State :=
  match exec i s with
  | .next t => t
  | .fault _ => s
  | .refused _ => s

/-- A command ends as `finish` says, so it leads to a state. -/
theorem next_after {i : Instr} {s : State} (r : Except ErrCode State) (h : exec i s = finish s r) :
    exec i s = .next (after i s) := by
  unfold after
  rw [h]
  cases r <;> rfl

theorem pack_after (fam : Family) (bw : Nat) (s : State) :
    exec (pkCommandOf fam false bw) s = .next (after (pkCommandOf fam false bw) s) :=
  next_after (packCommand fam bw s) (by cases fam <;> rfl)

theorem unpack_after (fam : Family) (bw : Nat) (s : State) :
    exec (pkCommandOf fam true bw) s = .next (after (pkCommandOf fam true bw) s) :=
  next_after (unpackCommand fam bw s) (by cases fam <;> rfl)

theorem xfVan_after (s : State) :
    exec .xfVanFwd s = .next (after .xfVanFwd s) ∧ exec .xfVanFwdSelf s = .next (after .xfVanFwdSelf s) :=
  ⟨next_after (xfCommand false vanIdentity noSeed s) rfl, next_after (xfCommand true vanIdentity noSeed s) rfl⟩

/-- The state a step leads to. -/
def stepped (s : State) : State :=
  match step s with
  | .next t => t
  | .fault _ => s
  | .refused _ => s

/-! ### The transform commands (95_test_vectors.md section 5) -/

theorem test_xfVanFwd :
    (after .xfVanFwd (xfStart vectorBuild [5, 5, 7, 3] 0)).smSeq 16 4 = [5, 5, 7, 3] := by decide +kernel

theorem test_xfVanFwd_overlap :
    (after .xfVanFwd { xfStart vectorBuild [1, 2, 3, 4] 0 with dstPtr := 1#32 }).smSeq 0 5 = [1, 1, 2, 3, 4] := by
  decide +kernel

theorem test_xfVanFwdSelf :
    (after .xfVanFwdSelf (xfStart vectorBuild [5, 5, 7, 3] 0)).sm = [(0, 5), (1, 5), (2, 7), (3, 3)] := by
  decide +kernel

theorem test_xfVanInv :
    (after .xfVanInv (xfStart vectorBuild [9, 0, 0xFFFFFFFF] 0)).smSeq 16 3 = [9, 0, 0xFFFFFFFF] := by
  decide +kernel

theorem test_xfVanInvSelf :
    (after .xfVanInvSelf (xfStart vectorBuild [1, 2] 0)).sm = [(0, 1), (1, 2)] := by decide +kernel

theorem test_xfM1Fwd :
    (after .xfM1Fwd (xfStart vectorBuild [5, 5, 7, 3] 0)).smSeq 16 4 = [4, 4, 6, 2] := by decide +kernel

theorem test_xfM1Fwd_zero :
    (after .xfM1Fwd (xfStart vectorBuild [1, 0, 9] 0)).statusWord = 0x00000502#32 ∧
    (after .xfM1Fwd (xfStart vectorBuild [1, 0, 9] 0)).sm = [(0, 1), (2, 9)] := by decide +kernel

theorem test_xfM1FwdSelf :
    (after .xfM1FwdSelf (xfStart vectorBuild [1, 0xFFFFFFFF] 0)).smSeq 0 2 = [0, 0xFFFFFFFE] := by decide +kernel

theorem test_xfM1Inv_wraps :
    (after .xfM1Inv (xfStart vectorBuild [0xFFFFFFFF, 0] 0)).smSeq 16 2 = [0, 1] := by decide +kernel

theorem test_xfM1Inv_checked :
    (after .xfM1Inv (xfStart checkedBuild [0xFFFFFFFF, 0] 0)).statusWord = 0x00000602#32 := by decide +kernel

theorem test_xfM1InvSelf :
    (after .xfM1InvSelf (xfStart vectorBuild [0, 7] 0)).smSeq 0 2 = [1, 8] := by decide +kernel

theorem test_xfD1zFwd :
    (after .xfD1zFwd (xfStart vectorBuild [5, 5, 7, 3] 0)).smSeq 16 4 = [0, 0, 4, 7] ∧
    (after .xfD1zFwd (xfStart vectorBuild [5, 5, 7, 3] 0)).seed = 5#32 := by decide +kernel

theorem test_xfD1zFwd_overlap :
    (after .xfD1zFwd { xfStart vectorBuild [5, 5, 7, 3] 0 with dstPtr := 2#32 }).smSeq 0 6 =
      [5, 5, 0, 0, 4, 7] := by decide +kernel

theorem test_xfD1zFwdSelf :
    (after .xfD1zFwdSelf (xfStart vectorBuild [100, 90, 80, 70] 0)).smSeq 0 4 = [0, 19, 19, 19] ∧
    (after .xfD1zFwdSelf (xfStart vectorBuild [100, 90, 80, 70] 0)).seed = 100#32 := by decide +kernel

theorem test_xfD1zFwdSelf_checked :
    (after .xfD1zFwdSelf (xfStart checkedBuild [0, 0x80000000, 0x80000001, 5] 0)).err = .range := by decide +kernel

theorem test_xfD1zInv :
    (after .xfD1zInv (xfStart vectorBuild [0, 0, 4, 7] 5)).smSeq 16 4 = [5, 5, 7, 3] := by decide +kernel

theorem test_xfD1zInv_underflow :
    (after .xfD1zInv (xfStart vectorBuild [1] 0)).smSeq 16 1 = [0xFFFFFFFF] ∧
    (after .xfD1zInv (xfStart checkedBuild [1] 0)).err = .range := by decide +kernel

theorem test_xfD1zInvSelf :
    (after .xfD1zInvSelf (xfStart vectorBuild [0, 19, 19, 19] 100)).smSeq 0 4 = [100, 90, 80, 70] := by
  decide +kernel

/-- The length and bounds errors of section 5. -/
theorem test_xf_length_errors :
    (after .xfVanFwd (xfStart vectorBuild [] 0)).err = .length ∧
    (after .xfM1Inv { xfStart vectorBuild [] 0 with len := 9#32 }).err = .length ∧
    (after .xfVanInv { xfStart vectorBuild [] 0 with len := 1#32, srcPtr := 64#32 }).err = .length ∧
    (after .xfD1zFwd { xfStart vectorBuild [] 0 with len := 2#32, dstPtr := 63#32 }).err = .length ∧
    (after .xfM1FwdSelf { xfStart vectorBuild [] 0 with len := 2#32, srcPtr := 63#32 }).err = .length := by
  decide +kernel

/-! ### The composed commands (95_test_vectors.md section 6) -/

/-- The sorted source of section 6. -/
def sortedBlock : List Word := [3, 3, 4, 8, 8, 9, 15, 20]

theorem test_packVan_auto :
    (after (.packVan 0) (packStart vectorBuild sortedBlock 16#32)).bmSeq 0 6 = [0x63, 0x10, 0x84, 0xD2, 0xA3, 0] ∧
    (after (.packVan 0) (packStart vectorBuild sortedBlock 16#32)).resolvedBw = 5#8 := by decide +kernel

theorem test_packVan_narrow :
    (after (.packVan 3) (packStart vectorBuild sortedBlock 16#32)).bmSeq 0 3 = [0x1B, 0x81, 0x9C] ∧
    (after (.packVan 32) (packStart vectorBuild sortedBlock 16#32)).err = .packer := by decide +kernel

theorem test_packM1_auto :
    (after (.packM1 0) (packStart vectorBuild [1, 2, 3, 4, 5, 6, 7, 8] 16#32)).bmSeq 0 3 = [0x88, 0xC6, 0xFA] := by
  decide +kernel

theorem test_packM1_zero :
    (after (.packM1 0) (packStart vectorBuild [1, 0, 3, 4, 5, 6, 7, 8] 16#32)).err = .invalidValue ∧
    (after (.packM1 33) (packStart vectorBuild [1, 0, 3, 4, 5, 6, 7, 8] 16#32)).err = .width := by decide +kernel

theorem test_packD1_auto :
    (after (.packD1 0) (packStart vectorBuild sortedBlock 16#32)).bmSeq 0 3 = [0x40, 0x88, 0xB8] ∧
    (after (.packD1 0) (packStart vectorBuild sortedBlock 16#32)).seed = 3#32 := by decide +kernel

theorem test_packD1_unsorted :
    (after (.packD1 0) (packStart vectorBuild [5, 4, 3, 2, 1, 0, 0, 0] 16#32)).err = .packer ∧
    (after (.packD1 0) (packStart vectorBuild [5, 4, 3, 2, 1, 0, 0, 0] 32#32)).result = 32#32 := by decide +kernel

theorem test_packD1z_auto :
    (after (.packD1z 0) (packStart vectorBuild [10, 12, 11, 11, 15, 9, 9, 20] 16#32)).bmSeq 0 5 =
      [0x80, 0x04, 0x80, 0x16, 0xB0] := by decide +kernel

theorem test_packD1z_off_domain :
    (after (.packD1z 0) (packStart vectorBuild [0, 0x80000000, 0, 0, 0, 0, 0, 0] 32#32)).result = 32#32 ∧
    (after (.packD1z 0) (packStart checkedBuild [0, 0x80000000, 0, 0, 0, 0, 0, 0] 32#32)).err = .range := by
  decide +kernel

/-- The remaining pack errors of section 6: BM bounds, LEN, width, the estimate of EP-Y, a block that does not fit. -/
theorem test_pack_errors :
    (after (.packVan 0) { packStart vectorBuild sortedBlock 8#32 with bytePtr := 60#32 }).err = .length ∧
    (after (.packVan 33) { packStart vectorBuild sortedBlock 16#32 with len := 7#32 }).err = .length ∧
    (after (.packVan 33) (packStart vectorBuild sortedBlock 16#32)).err = .width ∧
    (after (.packVan 0) (packStart { vectorBuild with packer := .testEpY } sortedBlock 16#32)).err = .packer ∧
    (after (.packVan 0) (packStart vectorBuild sortedBlock 4#32)).err = .packer := by decide +kernel

theorem test_unpackVan :
    (after (.unpackVan 5) (unpackStart vectorBuild [0x63, 0x10, 0x84, 0xD2, 0xA3] 5#32 0)).smSeq 16 8 =
      sortedBlock := by decide +kernel

theorem test_unpackVan_widths :
    (after (.unpackVan 0) (unpackStart vectorBuild [0] 1#32 0)).err = .zeroWidth ∧
    (after (.unpackVan 33) (unpackStart vectorBuild [0] 1#32 0)).err = .width := by decide +kernel

theorem test_unpackM1_short :
    (after (.unpackM1 3) (unpackStart vectorBuild [0x88, 0xC6] 2#32 0)).smSeq 16 8 = [1, 2, 3, 4, 5, 1, 0, 0] ∧
    (after (.unpackM1 3) (unpackStart vectorBuild [0x88, 0xC6] 2#32 0)).nRecovered = 5#32 := by decide +kernel

theorem test_unpackM1_count :
    (after (.unpackM1 3) (unpackStart { vectorBuild with packer := .testEpX } [0x88, 0xC6, 0xFA, 0] 4#32 0)).err =
      .length := by decide +kernel

theorem test_unpackD1 :
    (after (.unpackD1 3) (unpackStart vectorBuild [0x40, 0x88, 0xB8] 3#32 3)).smSeq 16 8 = sortedBlock ∧
    (after (.unpackD1 3) (unpackStart vectorBuild [0x40, 0x88, 0xB8] 3#32 3)).result = 8#32 := by decide +kernel

theorem test_unpackD1_wrong_init :
    (after (.unpackD1 3) (unpackStart vectorBuild [0x40, 0x88, 0xB8] 3#32 0)).smSeq 16 8 =
      [0, 0, 1, 5, 5, 6, 12, 17] := by decide +kernel

theorem test_unpackD1z :
    (after (.unpackD1z 5) (unpackStart vectorBuild [0x80, 0x04, 0x80, 0x16, 0xB0] 5#32 10)).smSeq 16 8 =
      [10, 12, 11, 11, 15, 9, 9, 20] := by decide +kernel

theorem test_unpackD1z_short :
    (after (.unpackD1z 5) (unpackStart vectorBuild [0x80, 0x04] 2#32 10)).smSeq 16 8 =
      [10, 12, 11, 0, 0, 0, 0, 0] := by decide +kernel

/-! ### Registers and the handshake (95_test_vectors.md section 7) -/

/-- The reset state with one pending input. -/
def pending (s : State) (i : Input) : State := s.setInputs [i]

theorem test_reset_param :
    State.reset.paramWord = 0x00000800#32 ∧ (State.powerOn checkedBuild).paramWord = 0x00000801#32 := by decide

theorem test_ctrl_reserved_bits :
    (stepped (pending State.reset (hostWr Params.reference .ctrl 0xFFFFFFFF#32))).statusWord = 1#32 ∧
    (stepped (pending State.reset (hostWr Params.reference .ctrl 0xFFFFFFFE#32))).statusWord = 0#32 := by decide

theorem test_write_while_busy :
    (stepped (pending State.reset.acceptGo (hostWr Params.reference .len 5#32))).len = 0#32 := by decide

theorem test_status_write_ignored :
    stepped (pending State.reset (hostWr Params.reference .status 0xFFFFFFFF#32)) = State.reset := by decide

theorem test_misaligned_register :
    step (pending State.reset (.access (.regRead 2))) = .refused .misalignedRegister ∧
    step (pending State.reset (.access (.regRead 0x40))) = .refused .outsideRegisterMap := ⟨rfl, rfl⟩

theorem test_sm_outside :
    step (pending State.reset (.access (.smRead 64))) = .fault .smIndexOutside ∧
    step (pending State.reset (.access (.bmRead 64))) = .fault .bmIndexOutside := ⟨rfl, rfl⟩

theorem test_fetch_word :
    (stepped (State.reset.withFetchWord 32 0x00000016)).statusWord = 0x00000102#32 := by decide +kernel

/-! ### Witnesses: encoding and datapath -/

theorem witness_DecodeInvertsEncode :
    (Instr.packD1z 255).wellFormed = true ∧ (Instr.unpackVan 0).wellFormed = true ∧
    Instr.xfD1zInvSelf.wellFormed = true := by decide

theorem witness_LegalWordsAreEncodings :
    decode 0x0000FF0C#32 = some (.unpackVan 255) ∧ decode 0#32 = some .xfVanFwd := by decide

/-- The four kinds of R60, and a state in which one of them is running. -/
theorem witness_IllegalWordsCompleteWithErrIllegal :
    decode 0x00000020#32 = none ∧ decode 0x00000006#32 = none ∧ decode 0x00000100#32 = none ∧
    decode 0x0000001F#32 = none ∧
    ({ xfStart vectorBuild [] 0 with cmd := 0x00000518#32 } : State).phase = .run ∧
    decode ({ xfStart vectorBuild [] 0 with cmd := 0x00000518#32 } : State).cmd = none := by decide

/-- Both ends of the range, and one past each. -/
theorem witness_Fit32WrapsOrChecks :
    (0 ≤ (0 : Int) ∧ (0 : Int) ≤ 2 ^ 32 - 1) ∧ (0 ≤ (2 ^ 32 - 1 : Int) ∧ (2 ^ 32 - 1 : Int) ≤ 2 ^ 32 - 1) ∧
    ¬ (0 ≤ (-1 : Int) ∧ (-1 : Int) ≤ 2 ^ 32 - 1) ∧ ¬ (0 ≤ (2 ^ 32 : Int) ∧ (2 ^ 32 : Int) ≤ 2 ^ 32 - 1) := by
  decide

theorem witness_OffsetBijection :
    1 ≤ (1#32).toNat ∧ 1 ≤ (0xFFFFFFFF#32).toNat ∧ (0#32).toNat ≤ 0xFFFFFFFE ∧
    (0xFFFFFFFE#32).toNat ≤ 0xFFFFFFFE ∧ 0#32 ∈ [1#32, 0#32, 9#32] := by decide

theorem witness_OffsetInverseRangeEvent : (0xFFFFFFFE#32 : Word) ≠ 0xFFFFFFFF#32 := by decide

/-- The last difference inside and the first outside on either side, and equal elements. -/
theorem witness_ZigzagEncodeFormula :
    (0#32).toNat < (0x80000000#32).toNat ∧ ¬ 2 ^ 31 < (0x80000000#32).toNat - (0#32).toNat ∧
    2 ^ 31 < (0x80000001#32).toNat - (0#32).toNat ∧ (5#32).toNat ≤ (5#32).toNat ∧
    2 ^ 31 ≤ (0x80000000#32).toNat - (0#32).toNat ∧ ¬ 2 ^ 31 ≤ (0x7FFFFFFF#32).toNat - (0#32).toNat := by decide

theorem witness_ZigzagDecodeFormula :
    (1#32).toNat % 2 = 1 ∧ (0xFFFFFFFE#32).toNat % 2 = 0 ∧ (0#32).toNat < (1#32).toNat / 2 + 1 ∧
    2 ^ 32 - 1 < (0xFFFFFFFF#32).toNat + (2#32).toNat / 2 ∧
    zzDec true 1#32 1#32 ≠ .error .range := by decide

theorem witness_ZigzagDomainRoundTrip :
    inZigzagDomain 0x80000000#32 0#32 ∧ inZigzagDomain 0#32 0x7FFFFFFF#32 ∧
    ¬ inZigzagDomain 0x80000001#32 0#32 ∧ ¬ inZigzagDomain 0#32 0x80000000#32 := by decide

theorem witness_FirstCodeIsZero :
    deltaZzFwd true [42#32] = .ok [0#32] ∧ deltaZzFwd false [5#32, 7#32] = .ok [0#32, 4#32] := by decide

theorem witness_DeltaRoundTripWithSeed :
    [0x80000000#32, 0#32] ≠ [] ∧ pairsInDomain (seedOf [0x80000000#32, 0#32]) [0x80000000#32, 0#32] :=
  ⟨by decide, by decide, by decide, trivial⟩

theorem witness_WrongInitialValueShifts :
    zzDec false 0#32 1#32 = .ok 0xFFFFFFFF#32 ∧ [0#32, 0x80000000#32] ≠ [] := by decide

/-! ### Witnesses: transform commands -/

/-- Eight elements, none 0 and none 0xFFFFFFFF: LEN = BL. -/
def plainBlock : List Word := [1, 2, 3, 4, 5, 6, 7, 8]

/-- LEN = 1 and LEN = BL, and a destination that ends at SM_WORDS. -/
theorem witness_XfVanillaCopiesSource :
    XfOk false (xfStart vectorBuild [5] 0) ∧
    XfOk false { xfStart vectorBuild plainBlock 0 with dstPtr := 56#32 } ∧
    XfOk true { xfStart vectorBuild plainBlock 0 with srcPtr := 56#32 } := by
  unfold XfOk; decide +kernel

theorem witness_XfM1ForwardSubtractsOne :
    XfOk false (xfStart vectorBuild plainBlock 0) ∧ XfOk true (xfStart vectorBuild plainBlock 0) ∧
    0#32 ∉ (xfStart vectorBuild plainBlock 0).xfSource := by
  unfold XfOk; decide +kernel

/-- Each side of the premise on ARITH_CHECK. -/
theorem witness_XfM1InverseAddsOne :
    XfOk false (xfStart vectorBuild [0xFFFFFFFF] 0) ∧ (xfStart vectorBuild [0xFFFFFFFF] 0).params.arithCheck = false ∧
    XfOk true (xfStart checkedBuild [0xFFFFFFFE] 0) ∧
    0xFFFFFFFF#32 ∉ (xfStart checkedBuild [0xFFFFFFFE] 0).xfSource := by
  unfold XfOk; decide +kernel

theorem witness_XfD1zForwardEncodesDeltas :
    XfOk false (xfStart vectorBuild [0, 0x80000000] 0) ∧
    (xfStart vectorBuild [0, 0x80000000] 0).params.arithCheck = false ∧
    XfOk true (xfStart checkedBuild [0x80000000, 0] 0) ∧
    pairsInDomain ((xfStart checkedBuild [0x80000000, 0] 0).smRead 0) (xfStart checkedBuild [0x80000000, 0] 0).xfSource := by
  refine ⟨by unfold XfOk; decide +kernel, rfl, by unfold XfOk; decide +kernel, ?_⟩
  have h : (xfStart checkedBuild [0x80000000, 0] 0).xfSource = [0x80000000#32, 0#32] := by decide +kernel
  have h' : (xfStart checkedBuild [0x80000000, 0] 0).smRead 0 = 0x80000000#32 := by decide +kernel
  rw [h, h']
  exact ⟨by decide, by decide, trivial⟩

theorem witness_XfD1zInverseDecodesDeltas :
    XfOk false (xfStart vectorBuild [1] 0) ∧ (xfStart vectorBuild [1] 0).params.arithCheck = false ∧
    XfOk true (xfStart checkedBuild [0, 0, 4, 7] 5) ∧
    ¬ decodeRangeEvent (xfStart checkedBuild [0, 0, 4, 7] 5).init (xfStart checkedBuild [0, 0, 4, 7] 5).xfSource :=
  ⟨by unfold XfOk; decide +kernel, rfl, by unfold XfOk; decide +kernel, by decide +kernel⟩

/-- LEN 0 and BL + 1, one word past SM, and no error. -/
theorem witness_XfLengthChecks :
    ¬ (1 ≤ (xfStart vectorBuild [] 0).len.toNat ∧ (xfStart vectorBuild [] 0).len.toNat ≤ 8) ∧
    (64#32).toNat + (1#32).toNat > vectorBuild.smWords ∧ ¬ ((63#32).toNat + (1#32).toNat > vectorBuild.smWords) ∧
    (after .xfVanFwd (xfStart vectorBuild [] 0)).err = .length ∧
    (after .xfVanFwd (xfStart vectorBuild [5] 0)).err = .none := by decide +kernel

theorem witness_XfM1ForwardRejectsZero :
    XfOk false (xfStart checkedBuild [1, 0] 0) ∧ XfOk true (xfStart checkedBuild [1, 0] 0) ∧
    1 < (xfStart checkedBuild [1, 0] 0).len.toNat ∧ (xfStart checkedBuild [1, 0] 0).smRead (0 + 1) = 0#32 := by
  unfold XfOk; decide +kernel

theorem witness_XfRangeErrors :
    XfOk false (xfStart checkedBuild [0, 0xFFFFFFFF] 0) ∧ XfOk true (xfStart checkedBuild [0, 0xFFFFFFFF] 0) ∧
    (xfStart checkedBuild [0, 0xFFFFFFFF] 0).params.arithCheck = true ∧
    0xFFFFFFFF#32 ∈ (xfStart checkedBuild [0, 0xFFFFFFFF] 0).xfSource ∧
    ¬ inZigzagDomain ((xfStart checkedBuild [0, 0xFFFFFFFF] 0).smRead (0 + 0))
      ((xfStart checkedBuild [0, 0xFFFFFFFF] 0).smRead (0 + (0 + 1))) ∧
    decodeRangeEvent (xfStart checkedBuild [0, 0xFFFFFFFF] 0).init
      (xfStart checkedBuild [0, 0xFFFFFFFF] 0).xfSource := by
  unfold XfOk; decide +kernel

/-! ### Witnesses: pack and unpack commands -/

/-- The source and the byte region each end where the memory does. -/
def packEdge (p : Params) : State :=
  { ((State.powerOn p).smWrite 56 sortedBlock) with
    len := 8#32, srcPtr := 56#32, bytePtr := 48#32, byteCap := 16#32, busy := true, phase := .run }

theorem witness_PackVanWritesBlock :
    PkFits (packEdge vectorBuild).srcPtr (packEdge vectorBuild) ∧
    WidthIs (vectorBuild.ep.estimate (packEdge vectorBuild).packSource) 0 5 ∧
    WidthIs (vectorBuild.ep.estimate (packEdge vectorBuild).packSource) 16 16 ∧
    (vectorBuild.ep.compress (packEdge vectorBuild).packSource 5).length ≤ (packEdge vectorBuild).byteCap.toNat ∧
    (vectorBuild.ep.compress (packEdge vectorBuild).packSource 16).length = (packEdge vectorBuild).byteCap.toNat := by
  unfold PkFits WidthIs; decide +kernel

theorem witness_PackM1WritesBlock :
    PkFits (packEdge vectorBuild).srcPtr (packEdge vectorBuild) ∧ 0#32 ∉ (packEdge vectorBuild).packSource ∧
    WidthIs (vectorBuild.ep.estimate ((packEdge vectorBuild).packSource.map (fun x => x - 1#32))) 0 5 ∧
    (vectorBuild.ep.compress ((packEdge vectorBuild).packSource.map (fun x => x - 1#32)) 5).length ≤
      (packEdge vectorBuild).byteCap.toNat := by
  unfold PkFits WidthIs; decide +kernel

theorem witness_PackD1WritesBlock :
    1 ≤ (packEdge vectorBuild).params.bl ∧ PkFits (packEdge vectorBuild).srcPtr (packEdge vectorBuild) ∧
    WidthIs (vectorBuild.ep.estimateSorted ((packEdge vectorBuild).smRead 56) (packEdge vectorBuild).packSource) 0 3 ∧
    (vectorBuild.ep.compressSorted ((packEdge vectorBuild).smRead 56) (packEdge vectorBuild).packSource 3).length ≤
      (packEdge vectorBuild).byteCap.toNat := by
  unfold PkFits WidthIs; decide +kernel

theorem witness_PackD1zWritesBlock :
    1 ≤ (packEdge checkedBuild).params.bl ∧ PkFits (packEdge checkedBuild).srcPtr (packEdge checkedBuild) ∧
    deltaZzFwd (packEdge checkedBuild).params.arithCheck (packEdge checkedBuild).packSource =
      .ok [0, 0, 2, 8, 0, 2, 12, 10] ∧
    WidthIs (checkedBuild.ep.estimate [0, 0, 2, 8, 0, 2, 12, 10]) 0 4 ∧
    (checkedBuild.ep.compress [0, 0, 2, 8, 0, 2, 12, 10] 4).length ≤ (packEdge checkedBuild).byteCap.toNat := by
  unfold PkFits WidthIs; decide +kernel

/-- An UNPACK whose destination and byte region end where the memories do; all region bytes are 0xFF. -/
def unpackEdge (p : Params) (init : Word) : State :=
  { ((State.powerOn p).bmWrite 32 (List.replicate 32 0xFF#8)) with
    len := 8#32, dstPtr := 56#32, bytePtr := 32#32, byteCap := 32#32, init := init, busy := true, phase := .run }

/-- Widths 1 and 32. -/
theorem witness_UnpackVanWritesValues :
    PkFits (unpackEdge vectorBuild 0).dstPtr (unpackEdge vectorBuild 0) ∧
    (vectorBuild.ep.decompress (unpackEdge vectorBuild 0).unpackRegion 1).2 = 1#32 ∧
    (vectorBuild.ep.decompress (unpackEdge vectorBuild 0).unpackRegion 32).2 = 32#32 ∧
    (32#32).toNat ≤ (unpackEdge vectorBuild 0).byteCap.toNat := by
  unfold PkFits; decide +kernel

theorem witness_UnpackM1WritesValues :
    PkFits (unpackEdge vectorBuild 0).dstPtr (unpackEdge vectorBuild 0) ∧
    (vectorBuild.ep.decompress (unpackEdge vectorBuild 0).unpackRegion 32).2 = 32#32 ∧ 8 = (32#32).toNat * 8 / 32 ∧
    8 ≤ (unpackEdge vectorBuild 0).params.bl ∧ (unpackEdge vectorBuild 0).params.arithCheck = false ∧
    PkFits (unpackEdge checkedBuild 0).dstPtr (unpackEdge checkedBuild 0) ∧
    (checkedBuild.ep.decompress (unpackEdge checkedBuild 0).unpackRegion 31).2 = 31#32 ∧
    0xFFFFFFFF#32 ∉ (blockValues 8 (checkedBuild.ep.decompress (unpackEdge checkedBuild 0).unpackRegion 31).1).take 8 := by
  unfold PkFits; decide +kernel

theorem witness_UnpackD1WritesValues :
    PkFits (unpackEdge vectorBuild 3).dstPtr (unpackEdge vectorBuild 3) ∧
    (vectorBuild.ep.decompressSorted (unpackEdge vectorBuild 3).init (unpackEdge vectorBuild 3).unpackRegion 1).2 =
      8#32 ∧
    (8#32).toNat ≤ (unpackEdge vectorBuild 3).params.bl := by
  unfold PkFits; decide +kernel

theorem witness_UnpackD1zWritesValues :
    PkFits (unpackEdge checkedBuild 100).dstPtr (unpackEdge checkedBuild 100) ∧
    (checkedBuild.ep.decompress (unpackEdge checkedBuild 100).unpackRegion 1).2 = 1#32 ∧ 8 = (1#32).toNat * 8 / 1 ∧
    ¬ decodeRangeEvent (unpackEdge checkedBuild 100).init
      ((blockValues 8 (checkedBuild.ep.decompress (unpackEdge checkedBuild 100).unpackRegion 1).1).take 8) ∧
    (unpackEdge vectorBuild 0).params.arithCheck = false := by
  unfold PkFits; decide +kernel

/-- One state for each clause: no fit, a width above 32, a zero for M1, an off-domain pair for D1Z, an estimate above
32, a block that does not fit, and success. -/
theorem witness_PackErrorPriority :
    ¬ PkFits 0#32 { packStart vectorBuild sortedBlock 16#32 with len := 7#32 } ∧
    PkFits 0#32 (packStart vectorBuild sortedBlock 16#32) ∧
    0#32 ∈ (packStart vectorBuild [1, 0, 3, 4, 5, 6, 7, 8] 16#32).packSource ∧
    PkFits 0#32 (packStart checkedBuild [0, 0x80000000, 0, 0, 0, 0, 0, 0] 16#32) ∧
    (packStart checkedBuild [0, 0x80000000, 0, 0, 0, 0, 0, 0] 16#32).packSource.take 2 = [0#32, 0x80000000#32] ∧
    ¬ inZigzagDomain 0#32 0x80000000#32 ∧
    tsmForward .van false (packStart vectorBuild sortedBlock 16#32).packSource = .ok sortedBlock ∧
    32 < (answerEstimate ({ vectorBuild with packer := .testEpY } : Params).ep (tsmEstimate .van sortedBlock sortedBlock)).toNat ∧
    WidthIs (answerEstimate vectorBuild.ep (tsmEstimate .van sortedBlock sortedBlock)) 0 5 ∧
    (4#32).toNat < (answerCompress vectorBuild.ep (tsmCompress .van sortedBlock sortedBlock 5)).length ∧
    (answerCompress vectorBuild.ep (tsmCompress .van sortedBlock sortedBlock 5)).length ≤ (16#32).toNat := by
  unfold PkFits WidthIs; decide +kernel

/-- One state for each clause, with EP-X for a count past BYTE_CAP and past BL. -/
theorem witness_UnpackErrorPriority :
    ¬ PkFits 16#32 { unpackStart vectorBuild [0] 1#32 0 with len := 7#32 } ∧
    PkFits 16#32 (unpackStart vectorBuild [0x88, 0xC6, 0xFA, 0] 4#32 0) ∧
    (answerDecompress 8 vectorBuild.ep (tsmDecompress .van 0 [0x88, 0xC6] 3)).2.toNat ≤
      countLimit 8 2 (tsmDecompress .van 0 [0x88, 0xC6] 3) ∧
    8 < (answerDecompress 8 ({ vectorBuild with packer := .testEpX } : Params).ep
      (tsmDecompress .m1 0 [0x88, 0xC6, 0xFA, 0] 3)).2.toNat * 8 / 3 ∧
    (after (.unpackM1 32) (unpackStart checkedBuild (List.replicate 32 0xFF#8) 32#32 0)).err = .range ∧
    decodeRangeEvent 0#32 ((answerDecompress 8 checkedBuild.ep (tsmDecompress .d1z 0 [0xFF] 1)).1.take 8) ∧
    ¬ decodeRangeEvent 0#32 ((answerDecompress 8 checkedBuild.ep (tsmDecompress .d1z 0 [0] 1)).1.take 8) ∧
    (after (.unpackD1z 1) (unpackStart checkedBuild [0xFF] 1#32 0)).err = .range ∧
    (after (.unpackD1z 1) (unpackStart checkedBuild [0] 1#32 0)).err = .none := by
  unfold PkFits; decide +kernel

/-! ### Witnesses: the round-trip law and auto-detect -/

theorem vectorBuild_legal : vectorBuild.legal := by unfold Params.legal; decide

theorem vectorBuild_meets : EpMeets vectorBuild.bl vectorBuild.ep :=
  testEp_meets (bl := 8) (by decide) (by decide)

theorem valuesBelow_of_all {b : Nat} {v : List Word} (h : v.all (fun x => decide (x.toNat < 2 ^ b)) = true) :
    valuesBelow b v := by
  simpa [valuesBelow] using h

theorem unpackAfter_self {s t : State} (hp : t.params = s.params) (hl : t.len = s.len) (hb : t.bytePtr = s.bytePtr)
    (hc : t.byteCap = s.byteCap) (hd : t.dstPtr.toNat + t.params.bl ≤ t.params.smWords) (init : Word) :
    UnpackAfter s t { t with init := init } where
  params := hp
  len := hl
  bytePtr := hb
  byteCap := hc
  dst := hd
  bytes := fun _ _ => rfl

theorem witness_PackUnpackRoundTripVan :
    (packStart vectorBuild sortedBlock 16#32).params.legal ∧
    EpMeets (packStart vectorBuild sortedBlock 16#32).params.bl (packStart vectorBuild sortedBlock 16#32).params.ep ∧
    exec (.packVan 0) (packStart vectorBuild sortedBlock 16#32) =
      .next (after (.packVan 0) (packStart vectorBuild sortedBlock 16#32)) ∧
    (after (.packVan 0) (packStart vectorBuild sortedBlock 16#32)).err = .none ∧
    UnpackAfter (packStart vectorBuild sortedBlock 16#32)
      (after (.packVan 0) (packStart vectorBuild sortedBlock 16#32))
      { after (.packVan 0) (packStart vectorBuild sortedBlock 16#32) with init := 0#32 } ∧
    valuesBelow 5 (packStart vectorBuild sortedBlock 16#32).packSource :=
  ⟨vectorBuild_legal, vectorBuild_meets, pack_after .van 0 _, by decide +kernel,
    unpackAfter_self (by decide +kernel) (by decide +kernel) (by decide +kernel) (by decide +kernel)
      (by decide +kernel) _, valuesBelow_of_all (by decide +kernel)⟩

theorem witness_PackUnpackRoundTripM1 :
    exec (.packM1 0) (packStart vectorBuild plainBlock 16#32) =
      .next (after (.packM1 0) (packStart vectorBuild plainBlock 16#32)) ∧
    (after (.packM1 0) (packStart vectorBuild plainBlock 16#32)).err = .none ∧
    UnpackAfter (packStart vectorBuild plainBlock 16#32) (after (.packM1 0) (packStart vectorBuild plainBlock 16#32))
      { after (.packM1 0) (packStart vectorBuild plainBlock 16#32) with init := 0#32 } ∧
    (packStart vectorBuild plainBlock 16#32).params.legal ∧
    EpMeets (packStart vectorBuild plainBlock 16#32).params.bl (packStart vectorBuild plainBlock 16#32).params.ep :=
  ⟨pack_after .m1 0 _, by decide +kernel,
    unpackAfter_self (by decide +kernel) (by decide +kernel) (by decide +kernel) (by decide +kernel)
      (by decide +kernel) _, vectorBuild_legal, vectorBuild_meets⟩

theorem witness_PackUnpackRoundTripD1 :
    exec (.packD1 3) (packStart vectorBuild sortedBlock 16#32) =
      .next (after (.packD1 3) (packStart vectorBuild sortedBlock 16#32)) ∧
    (after (.packD1 3) (packStart vectorBuild sortedBlock 16#32)).err = .none ∧
    UnpackAfter (packStart vectorBuild sortedBlock 16#32) (after (.packD1 3) (packStart vectorBuild sortedBlock 16#32))
      { after (.packD1 3) (packStart vectorBuild sortedBlock 16#32) with init := 3#32 } ∧
    3#32 = (after (.packD1 3) (packStart vectorBuild sortedBlock 16#32)).seed ∧
    sortedFrom (seedOf (packStart vectorBuild sortedBlock 16#32).packSource)
      (packStart vectorBuild sortedBlock 16#32).packSource ∧
    diffsBelow 3 (seedOf (packStart vectorBuild sortedBlock 16#32).packSource)
      (packStart vectorBuild sortedBlock 16#32).packSource ∧
    (packStart vectorBuild sortedBlock 16#32).params.legal ∧
    EpMeets (packStart vectorBuild sortedBlock 16#32).params.bl (packStart vectorBuild sortedBlock 16#32).params.ep := by
  have h : (packStart vectorBuild sortedBlock 16#32).packSource = [3#32, 3#32, 4#32, 8#32, 8#32, 9#32, 15#32, 20#32] := by
    decide +kernel
  refine ⟨pack_after .d1 3 _, by decide +kernel,
    unpackAfter_self (by decide +kernel) (by decide +kernel) (by decide +kernel) (by decide +kernel)
      (by decide +kernel) _, by decide +kernel, ?_, ?_, vectorBuild_legal, vectorBuild_meets⟩
  · rw [h]; simp only [sortedFrom, seedOf]; decide
  · rw [h]; simp only [diffsBelow, seedOf]; decide

theorem witness_PackUnpackRoundTripD1z :
    exec (.packD1z 4) (packStart vectorBuild sortedBlock 16#32) =
      .next (after (.packD1z 4) (packStart vectorBuild sortedBlock 16#32)) ∧
    (after (.packD1z 4) (packStart vectorBuild sortedBlock 16#32)).err = .none ∧
    UnpackAfter (packStart vectorBuild sortedBlock 16#32) (after (.packD1z 4) (packStart vectorBuild sortedBlock 16#32))
      { after (.packD1z 4) (packStart vectorBuild sortedBlock 16#32) with init := 3#32 } ∧
    3#32 = (after (.packD1z 4) (packStart vectorBuild sortedBlock 16#32)).seed ∧
    pairsInDomain (seedOf (packStart vectorBuild sortedBlock 16#32).packSource)
      (packStart vectorBuild sortedBlock 16#32).packSource ∧
    (∀ C, deltaZzFwd (packStart vectorBuild sortedBlock 16#32).params.arithCheck
      (packStart vectorBuild sortedBlock 16#32).packSource = .ok C → valuesBelow 4 C) ∧
    (packStart vectorBuild sortedBlock 16#32).params.legal ∧
    EpMeets (packStart vectorBuild sortedBlock 16#32).params.bl (packStart vectorBuild sortedBlock 16#32).params.ep := by
  have h : (packStart vectorBuild sortedBlock 16#32).packSource = [3#32, 3#32, 4#32, 8#32, 8#32, 9#32, 15#32, 20#32] := by
    decide +kernel
  have h2 : deltaZzFwd (packStart vectorBuild sortedBlock 16#32).params.arithCheck
      (packStart vectorBuild sortedBlock 16#32).packSource = .ok [0, 0, 2, 8, 0, 2, 12, 10] := by decide +kernel
  refine ⟨pack_after .d1z 4 _, by decide +kernel,
    unpackAfter_self (by decide +kernel) (by decide +kernel) (by decide +kernel) (by decide +kernel)
      (by decide +kernel) _, by decide +kernel, ?_, ?_, vectorBuild_legal, vectorBuild_meets⟩
  · rw [h]; simp only [pairsInDomain, seedOf]; decide +kernel
  · intro C hC
    rw [h2] at hC
    cases hC
    exact valuesBelow_of_all (by decide +kernel)

/-- The same source at another place of another state, packed to another place. -/
theorem witness_AutoDetectPackIsIdempotent :
    (packEdge vectorBuild).params = (packStart vectorBuild sortedBlock 16#32).params ∧
    (packEdge vectorBuild).packSource = (packStart vectorBuild sortedBlock 16#32).packSource ∧
    (packEdge vectorBuild).byteCap = (packStart vectorBuild sortedBlock 16#32).byteCap ∧
    PkFits (packStart vectorBuild sortedBlock 16#32).srcPtr (packStart vectorBuild sortedBlock 16#32) ∧
    PkFits (packEdge vectorBuild).srcPtr (packEdge vectorBuild) ∧
    exec (pkCommandOf .d1 false 0) (packEdge vectorBuild) = .next (after (.packD1 0) (packEdge vectorBuild)) ∧
    exec (pkCommandOf .d1 false 0) (packStart vectorBuild sortedBlock 16#32) =
      .next (after (.packD1 0) (packStart vectorBuild sortedBlock 16#32)) ∧
    (after (.packD1 0) (packStart vectorBuild sortedBlock 16#32)).err = .none :=
  ⟨rfl, by decide +kernel, rfl, by unfold PkFits; decide +kernel, by unfold PkFits; decide +kernel,
    pack_after .d1 0 _, pack_after .d1 0 _, by decide +kernel⟩

/-! ### Witnesses: all commands -/

/-- An accepted GO from the reset state, whose CMD = 0 and LEN = 0 then end with an error. -/
theorem witness_ErrorsArePrecise :
    exec .xfVanFwd State.reset.acceptGo = .next (after .xfVanFwd State.reset.acceptGo) ∧
    (after .xfVanFwd State.reset.acceptGo).err ≠ .none ∧ State.reset.acceptGo.busy = true ∧
    Inv State.reset.acceptGo :=
  ⟨(xfVan_after _).1, by decide, rfl,
    by decide, by decide, by unfold State.resultsZero; decide, by unfold State.resultsZero; decide, by decide,
    by decide, by decide, by decide,
    by decide, by decide, by decide⟩

/-- Every code but ERR_ILLEGAL is raised by some command. -/
theorem witness_ErrorCodesOnlyWhereListed :
    (after (.packVan 33) (packStart vectorBuild sortedBlock 16#32)).err = .width ∧
    (after (.unpackVan 0) (unpackStart vectorBuild [0] 1#32 0)).err = .zeroWidth ∧
    (after .xfM1Fwd (xfStart vectorBuild [1, 0, 9] 0)).err = .invalidValue ∧
    (after .xfM1Inv (xfStart checkedBuild [0xFFFFFFFF, 0] 0)).err = .range ∧
    (after (.packVan 0) (packStart vectorBuild sortedBlock 4#32)).err = .packer := by decide +kernel

theorem witness_CommandsLeaveTheOtherMemory :
    exec .xfVanFwd (xfStart vectorBuild [5] 0) = .next (after .xfVanFwd (xfStart vectorBuild [5] 0)) ∧
    15 < (xfStart vectorBuild [5] 0).xfDst false ∧
    (xfStart vectorBuild [5] 0).xfDst false + (xfStart vectorBuild [5] 0).len.toNat ≤ 17 ∧
    exec (.packVan 0) (packEdge vectorBuild) = .next (after (.packVan 0) (packEdge vectorBuild)) ∧
    47 < (packEdge vectorBuild).bytePtr.toNat ∧
    (packEdge vectorBuild).bytePtr.toNat + (packEdge vectorBuild).byteCap.toNat ≤ 64 ∧
    exec (.unpackVan 1) (unpackEdge vectorBuild 0) = .next (after (.unpackVan 1) (unpackEdge vectorBuild 0)) ∧
    55 < (unpackEdge vectorBuild 0).dstPtr.toNat ∧ (unpackEdge vectorBuild 0).dstPtr.toNat + 8 ≤ 64 :=
  ⟨(xfVan_after _).1, by decide +kernel, by decide +kernel, pack_after .van 0 _, by decide +kernel,
    by decide +kernel, unpack_after .van 1 _, by decide +kernel, by decide +kernel⟩

theorem witness_IgnoredOperandsDoNotMatter :
    exec .xfVanFwdSelf (xfStart vectorBuild [5] 0) = .next (after .xfVanFwdSelf (xfStart vectorBuild [5] 0)) ∧
    exec (.unpackVan 5) (unpackEdge vectorBuild 0) = .next (after (.unpackVan 5) (unpackEdge vectorBuild 0)) ∧
    exec .xfVanFwd (xfStart vectorBuild [5] 0) = .next (after .xfVanFwd (xfStart vectorBuild [5] 0)) ∧
    exec (.packD1 0) (packEdge vectorBuild) = .next (after (.packD1 0) (packEdge vectorBuild)) :=
  ⟨(xfVan_after _).2, unpack_after .van 5 _,
    (xfVan_after _).1, pack_after .d1 0 _⟩

/-! ### Witnesses: the host, reset and the step -/

theorem witness_OperandRegistersReadBack :
    Reg.init ∈ [Reg.cmd, .len, .srcPtr, .dstPtr, .bytePtr, .byteCap, .init] ∧ State.reset.resetLine = false ∧
    State.reset.busy = false := by decide

theorem witness_CtrlWriteIsGo :
    State.reset.resetLine = false ∧ State.reset.busy = false ∧ (0xFFFFFFFF#32).getLsbD 0 = true ∧
    State.reset.acceptGo.busy = true ∧ (0xFFFFFFFE#32).getLsbD 0 = false := by decide

theorem witness_WritesWhileBusyAreDropped :
    State.reset.acceptGo.resetLine = false ∧ State.reset.acceptGo.busy = true ∧
    63 < State.reset.acceptGo.params.smWords ∧ 63 < State.reset.acceptGo.params.bmBytes := by decide

theorem witness_ReadsHaveNoSideEffect :
    State.reset.resetLine = false ∧ State.reset.busy = false ∧ 63 < State.reset.params.smWords ∧
    63 < State.reset.params.bmBytes ∧ State.reset.acceptGo.resetLine = false ∧
    State.reset.acceptGo.busy = true := by decide

theorem witness_ReadOnlyRegistersIgnoreWrites : State.reset.resetLine = false := rfl

theorem witness_ParamReportsTheBuild :
    checkedBuild.legal ∧ ({ vectorBuild with bl := 2 ^ 24 - 8, smWords := 2 ^ 24 - 8 } : Params).legal := by
  unfold Params.legal; decide

theorem witness_HostMemoryWritesReadBack :
    State.reset.resetLine = false ∧ State.reset.busy = false ∧ 0 < State.reset.params.smWords ∧
    63 < State.reset.params.smWords ∧ 63 < State.reset.params.bmBytes := by decide

/-- A step that goes on, and one that does not. -/
theorem witness_OnlyUndefinedAccessesStop :
    stepsOn (pending State.reset (.access (.smRead 63))) ∧ ¬ stepsOn (pending State.reset (.access (.smRead 64))) :=
  ⟨⟨_, rfl⟩, fun ⟨_, h⟩ => nomatch h⟩

theorem witness_ResetClearsRegisters :
    (pending (packEdge vectorBuild) (.resetLine true)).inputs = .resetLine true :: [] := rfl

theorem witness_GoRightAfterResetIsLengthError :
    (State.reset.setInputs [.resetLine true, .resetLine false, hostGo Params.reference, .tuTurn]).inputs =
      [.resetLine true, .resetLine false, hostGo State.reset.params, .tuTurn] := rfl

/-- With the turn at the head of the inputs, and with none pending. -/
theorem witness_StepRunsTheDecodedCommand :
    (pending { packEdge vectorBuild with cmd := 0x00000008#32 } .tuTurn).tuNext [] ∧
    ({ packEdge vectorBuild with cmd := 0x00000008#32 } : State).tuNext [] ∧
    ({ packEdge vectorBuild with cmd := 0x00000008#32 } : State).phase = .run ∧
    decode ({ packEdge vectorBuild with cmd := 0x00000008#32 } : State).cmd = some (.packVan 0) :=
  ⟨.inl rfl, .inr ⟨rfl, rfl⟩, rfl, by decide⟩

theorem witness_GoThenTurnRunsTheCommand :
    (State.reset.setInputs [hostGo Params.reference, .tuTurn]).inputs =
      hostGo State.reset.params :: .tuTurn :: [] ∧
    State.reset.resetLine = false ∧ State.reset.busy = false ∧ decode State.reset.cmd = some .xfVanFwd :=
  ⟨rfl, rfl, rfl, by decide⟩

/-- BUSY rises; DONE falls at a GO, and at reset. -/
theorem witness_OnlyGoStartsACommand :
    step (pending State.reset (hostGo Params.reference)) =
      .next (stepped (pending State.reset (hostGo Params.reference))) ∧
    State.reset.busy = false ∧ (stepped (pending State.reset (hostGo Params.reference))).busy = true ∧
    step (pending { State.reset with done := true } (.resetLine true)) =
      .next (stepped (pending { State.reset with done := true } (.resetLine true))) ∧
    (stepped (pending { State.reset with done := true } (.resetLine true))).done = false ∧
    (stepped (pending { State.reset with done := true } (hostGo Params.reference))).done = false :=
  ⟨rfl, rfl, rfl, rfl, rfl, rfl⟩

/-- A turn ends a command, reset does, and a host write does not. -/
theorem witness_OnlyCompletionOrResetEndsACommand :
    step (packEdge vectorBuild) = .next (stepped (packEdge vectorBuild)) ∧ (packEdge vectorBuild).busy = true ∧
    (stepped (packEdge vectorBuild)).busy = false ∧
    (stepped (pending (packEdge vectorBuild) (.resetLine true))).busy = false ∧
    step (pending (packEdge vectorBuild) (hostWr vectorBuild .len 0#32)) =
      .next (stepped (pending (packEdge vectorBuild) (hostWr vectorBuild .len 0#32))) ∧
    ¬ ∃ rest, (pending (packEdge vectorBuild) (hostWr vectorBuild .len 0#32)).tuNext rest := by
  refine ⟨rfl, rfl, by decide +kernel, rfl, rfl, ?_⟩
  rintro ⟨rest, h | ⟨h, -⟩⟩ <;> cases h

theorem witness_BuildParametersAreConstant : step State.reset = .next State.reset := rfl

theorem witness_StepKeepsTheInvariant :
    Inv (pending State.reset (hostGo Params.reference)) ∧
    step (pending State.reset (hostGo Params.reference)) =
      .next (stepped (pending State.reset (hostGo Params.reference))) :=
  ⟨⟨by decide, by decide, by unfold State.resultsZero; decide, by unfold State.resultsZero; decide, by decide,
    by decide, by decide, by decide,
    by decide, by decide, by decide⟩, rfl⟩

/-- Two memories written in different orders read alike and are the same data. -/
theorem witness_CanonicalMemoriesAreEqual :
    Memory.wf (fun _ => 0#8) (Memory.writeSeq (fun _ => 0#8) [] 3 [1#8, 0#8, 2#8]) = true ∧
    Memory.wf (fun _ => 0#8)
      (Memory.write (fun _ => 0#8) (Memory.write (fun _ => 0#8) [] 5 2#8) 3 1#8) = true ∧
    Memory.writeSeq (fun _ => 0#8) [] 3 [1#8, 0#8, 2#8] =
      Memory.write (fun _ => 0#8) (Memory.write (fun _ => 0#8) [] 5 2#8) 3 1#8 := by decide

end Sys2Proof.Tests
end

