-- ==== Sys2Proof/Proofs/Params.lean ====
section
/-! PROOF. The build parameters keep (00_scope.md R7, 10_state.md R27): one lemma for each operation of the machine
that the laws of State do not list, then the command bodies, the TU's turn, the host accesses and the step. -/

namespace Sys2Proof.Machine

/-! ### Host accesses and the reset line -/

@[simp] theorem State.writeReg_params (s : State) (r : Reg) (v : Word) : (s.writeReg r v).params = s.params := by
  obtain ⟨-, e⟩ | ⟨-, ⟨-, e⟩ | ⟨-, e⟩ | ⟨-, e⟩ | ⟨-, e⟩ | ⟨-, e⟩ | ⟨-, e⟩ | ⟨-, e⟩ | ⟨-, -, e⟩ | ⟨-, -, e⟩ |
      ⟨-, e⟩⟩ := s.writeReg_cases r v
  all_goals simp [e]

@[simp] theorem State.hostSmRead_params (s : State) (i : Nat) : (s.hostSmRead i).params = s.params := by
  unfold State.hostSmRead; split <;> rfl

@[simp] theorem State.hostBmRead_params (s : State) (j : Nat) : (s.hostBmRead j).params = s.params := by
  unfold State.hostBmRead; split <;> rfl

@[simp] theorem State.hostSmWrite_params (s : State) (i : Nat) (v : Word) : (s.hostSmWrite i v).params = s.params := by
  unfold State.hostSmWrite; split <;> rfl

@[simp] theorem State.hostBmWrite_params (s : State) (j : Nat) (v : Byte) : (s.hostBmWrite j v).params = s.params := by
  unfold State.hostBmWrite; split <;> rfl

@[simp] theorem State.setResetLine_params (s : State) (b : Bool) : (s.setResetLine b).params = s.params := by
  cases b <;> rfl

theorem hostAccess_params {a : HostAccess} {s t : State} (h : hostAccess a s = .next t) : t.params = s.params := by
  obtain ⟨-, ⟨r, -, rfl⟩ | ⟨r, v, -, rfl⟩ | ⟨i, -, -, rfl⟩ | ⟨i, v, -, -, rfl⟩ | ⟨j, -, -, rfl⟩ | ⟨j, v, -, -, rfl⟩⟩ :=
    hostAccess_next h
  all_goals simp

/-! ### Commands -/

theorem commandBody_params {s t : State} {i : Instr} (h : commandBody s i = .ok t) : t.params = s.params := by
  obtain ⟨self, F, seed, e, -⟩ | ⟨fam, bw, e⟩ | ⟨fam, bw, e⟩ := commandBody_cases s i <;> rw [e] at h
  · obtain ⟨-, T, -, rfl⟩ := xfCommand_ok.mp h
    simp
  · obtain ⟨-, -, T, w, -, -, -, rfl⟩ := packCommand_ok.mp h
    simp
  · obtain ⟨-, -, -, r, o, -, -, -, rfl⟩ := unpackCommand_ok.mp h
    simp

theorem exec_params {i : Instr} {s t : State} (h : exec i s = .next t) : t.params = s.params := by
  rw [exec_eq_finish] at h
  obtain ⟨u, hu, rfl⟩ | ⟨c, -, rfl⟩ := finish_cases h
  · simpa using commandBody_params hu
  · simp

theorem tuTurn_params {s t : State} (h : tuTurn s = .next t) : t.params = s.params := by
  obtain ⟨-, rfl⟩ | ⟨-, -, rfl⟩ | ⟨-, i, -, hx⟩ := tuTurn_next h
  · rfl
  · simp
  · exact exec_params hx

/-! ### The step -/

theorem step_params {s t : State} (h : step s = .next t) : t.params = s.params := by
  obtain ⟨rest, -, ht⟩ | ⟨a, rest, -, ha⟩ | ⟨b, rest, -, rfl⟩ := step_next h
  · simpa using tuTurn_params ht
  · simpa using hostAccess_params ha
  · simp

/-- Settles O57: a step is a turn of the TU, a host access or a change of the reset line, and each keeps them. -/
theorem buildParametersAreConstant : Obligations.BuildParametersAreConstant :=
  fun _ _ => step_params

end Sys2Proof.Machine
end

namespace Sys2Proof.Machine

/-! PROOF. Every step keeps the invariant `Inv` (10_state.md R21 to R26, R32, R33, R35; 20_memory.md R43): one lemma
for each operation a step is made of, then the step. -/

/-! ### Completion -/

/-- The clauses of `Inv` that speak of neither STATUS nor PHASE nor the unobservable registers: what a command's body
keeps of the invariant, and all that its completion step needs of it. -/
structure DataInv (s : State) : Prop where
  width : s.resolvedBw.toNat ≤ 32
  recovered : s.nRecovered.toNat ≤ s.params.bl
  smForm : Memory.wf s.params.smInitAt s.sm = true ∧ Memory.within s.params.smWords s.sm = true
  bmForm : Memory.wf s.params.bmInitAt s.bm = true ∧ Memory.within s.params.bmBytes s.bm = true

theorem Inv.dataInv {s : State} (h : Inv s) : DataInv s := { h with }

theorem State.completeOk_eq_completeErr (s : State) : s.completeOk = s.completeErr .none := rfl

theorem State.freeInternals_scr_length (s : State) : s.freeInternals.scr.length = s.params.bl := by simp

theorem State.freeInternals_idx_le (s : State) : s.freeInternals.idx ≤ s.params.bl :=
  Nat.le_of_lt_succ (Nat.mod_lt _ (Nat.succ_pos _))

/-- Both completion steps (R130, R131) establish the invariant; an error needs that the result registers are 0. -/
theorem DataInv.completeErr {s : State} {c : ErrCode} (h : DataInv s) (hz : c ≠ .none → s.resultsZero) :
    Inv (s.completeErr c) where
  phaseRun := by simp
  busyNotDone := by simp
  busyClear := by simp
  errClear := fun hc => ⟨rfl, hz hc⟩
  resetIdle := fun _ => rfl
  width := h.width
  recovered := h.recovered
  scrLength := s.freeInternals_scr_length
  idxRange := s.freeInternals_idx_le
  smForm := h.smForm
  bmForm := h.bmForm

/-! ### Writes of the memories -/

theorem State.smWrite_form {s : State} {p : Nat} {xs : List Word}
    (h : Memory.wf s.params.smInitAt s.sm = true ∧ Memory.within s.params.smWords s.sm = true)
    (hp : p + xs.length ≤ s.params.smWords) :
    Memory.wf s.params.smInitAt (s.smWrite p xs).sm = true ∧
      Memory.within s.params.smWords (s.smWrite p xs).sm = true :=
  ⟨Memory.wf_writeSeq _ xs p h.1, Memory.within_writeSeq _ xs h.2 hp⟩

theorem State.bmWrite_form {s : State} {p : Nat} {bs : List Byte}
    (h : Memory.wf s.params.bmInitAt s.bm = true ∧ Memory.within s.params.bmBytes s.bm = true)
    (hp : p + bs.length ≤ s.params.bmBytes) :
    Memory.wf s.params.bmInitAt (s.bmWrite p bs).bm = true ∧
      Memory.within s.params.bmBytes (s.bmWrite p bs).bm = true :=
  ⟨Memory.wf_writeSeq _ bs p h.1, Memory.within_writeSeq _ bs h.2 hp⟩

/-! ### Commands -/

theorem xfCommand_dataInv {self : Bool} {F : List Word → Except ErrCode (List Word)} {seed : List Word → Word}
    {s u : State} (h : DataInv s) (hF : ∀ S T, F S = .ok T → T.length = S.length)
    (hu : xfCommand self F seed s = .ok u) : DataInv u := by
  obtain ⟨⟨-, -, -, hdst⟩, T, hT, rfl⟩ := xfCommand_ok.mp hu
  have hlen : T.length = s.len.toNat := by rw [hF _ _ hT, State.xfSource, State.smSeq_length]
  exact { h with smForm := State.smWrite_form h.smForm (hlen ▸ hdst) }

/-- A PACK that passes the checks resolves its width to at most 32 (R112). -/
theorem resolveBw_le {p : Params} {fam : Family} {bw w : Nat} {S T : List Word} (hb : bw ≤ 32)
    (h : resolveBw p fam bw S T = .ok w) : w ≤ 32 := by
  rw [resolveBw_ok] at h
  split at h <;> omega

theorem packCommand_dataInv {fam : Family} {bw : Nat} {s u : State} (h : DataInv s)
    (hu : packCommand fam bw s = .ok u) : DataInv u := by
  obtain ⟨⟨-, -, hregion⟩, hb, T, w, -, hw, hB, rfl⟩ := packCommand_ok.mp hu
  exact { h with
    width := (Nat.mod_le w (2 ^ 8)).trans (resolveBw_le hb hw)
    bmForm := State.bmWrite_form h.bmForm (by omega) }

theorem unpackCommand_dataInv {fam : Family} {bw : Nat} {s u : State} (h : DataInv s)
    (hu : unpackCommand fam bw s = .ok u) : DataInv u := by
  obtain ⟨⟨-, hdst, -⟩, hb, -, r, o, rfl, -, ho, rfl⟩ := unpackCommand_ok.mp hu
  obtain ⟨hlen, hn⟩ := tsmInverse_spec ho
  rw [answerDecompress_length] at hlen
  exact { h with
    width := (Nat.mod_le bw (2 ^ 8)).trans hb
    recovered := (Nat.mod_le o.2 (2 ^ 32)).trans hn
    smForm := State.smWrite_form h.smForm (hlen ▸ hdst) }

theorem commandBody_dataInv {i : Instr} {s u : State} (h : DataInv s) (hu : commandBody s i = .ok u) :
    DataInv u := by
  obtain ⟨self, F, seed, e, hF⟩ | ⟨fam, bw, e⟩ | ⟨fam, bw, e⟩ := commandBody_cases s i <;> rw [e] at hu
  · exact xfCommand_dataInv h hF hu
  · exact packCommand_dataInv h hu
  · exact unpackCommand_dataInv h hu

/-- A command that runs on zero result registers keeps the invariant, whether it succeeds or raises an error. -/
theorem exec_inv {i : Instr} {s t : State} (h : DataInv s) (hz : s.resultsZero) (ht : exec i s = .next t) : Inv t := by
  rw [exec_eq_finish] at ht
  obtain ⟨u, hu, rfl⟩ | ⟨c, -, rfl⟩ := finish_cases ht
  · rw [State.completeOk_eq_completeErr]
    exact (commandBody_dataInv h hu).completeErr fun hc => absurd rfl hc
  · exact h.completeErr fun _ => hz

/-! ### The TU's turn, the host's accesses, the reset line -/

theorem Inv.setInputs {s : State} (h : Inv s) (is : List Input) : Inv (s.setInputs is) := { h with }

theorem Inv.setReply {s : State} (h : Inv s) (r : Reply) : Inv (s.setReply r) := { h with }

/-- In PHASE RUN the command finds zero result registers (R21, R32). -/
theorem Inv.resultsZero_of_run {s : State} (h : Inv s) (hp : s.phase = .run) : s.resultsZero :=
  (h.busyClear (h.phaseRun.mp hp)).2

theorem Inv.tuTurn {s t : State} (h : Inv s) (ht : tuTurn s = .next t) : Inv t := by
  obtain ⟨-, rfl⟩ | ⟨hp, -, rfl⟩ | ⟨hp, i, -, hx⟩ := tuTurn_next ht
  · exact h
  · exact h.dataInv.completeErr fun _ => h.resultsZero_of_run hp
  · exact exec_inv h.dataInv (h.resultsZero_of_run hp) hx

theorem Inv.acceptGo {s : State} (h : Inv s) (hr : s.resetLine = false) : Inv s.acceptGo :=
  { h with
    phaseRun := by simp
    busyNotDone := by simp
    busyClear := fun _ => ⟨rfl, rfl, rfl, rfl, rfl⟩
    errClear := fun hc => absurd rfl hc
    resetIdle := by simp [hr]
    width := by simp
    recovered := by simp }

/-- A host write of a register is an accepted GO, or it changes operand registers at most (R16 to R29). -/
theorem State.writeReg_go_or_operands (s : State) (r : Reg) (v : Word) :
    (r = .ctrl ∧ v.getLsbD 0 = true ∧ s.writeReg r v = s.acceptGo) ∨
    (∃ cmd len srcPtr dstPtr bytePtr byteCap init, s.writeReg r v =
      { s with cmd := cmd, len := len, srcPtr := srcPtr, dstPtr := dstPtr, bytePtr := bytePtr, byteCap := byteCap,
               init := init }) := by
  obtain ⟨-, e⟩ | ⟨-, ⟨-, e⟩ | ⟨-, e⟩ | ⟨-, e⟩ | ⟨-, e⟩ | ⟨-, e⟩ | ⟨-, e⟩ | ⟨-, e⟩ | hgo | ⟨-, -, e⟩ | ⟨-, e⟩⟩ :=
    s.writeReg_cases r v
  any_goals exact .inr ⟨_, _, _, _, _, _, _, e⟩
  exact .inl hgo

theorem Inv.writeReg {s : State} (h : Inv s) (hr : s.resetLine = false) (r : Reg) (v : Word) :
    Inv (s.writeReg r v) := by
  obtain ⟨-, -, e⟩ | ⟨_, _, _, _, _, _, _, e⟩ := s.writeReg_go_or_operands r v <;> rw [e]
  · exact h.acceptGo hr
  · exact { h with }

theorem Inv.hostSmRead {s : State} (h : Inv s) (i : Nat) : Inv (s.hostSmRead i) := by
  unfold State.hostSmRead
  split
  · exact { h with }
  · exact h.setReply _

theorem Inv.hostBmRead {s : State} (h : Inv s) (j : Nat) : Inv (s.hostBmRead j) := by
  unfold State.hostBmRead
  split
  · exact { h with }
  · exact h.setReply _

theorem Inv.hostSmWrite {s : State} (h : Inv s) {i : Nat} (hi : i < s.params.smWords) (v : Word) :
    Inv (s.hostSmWrite i v) := by
  unfold State.hostSmWrite
  split
  · exact h
  · exact { h with smForm := State.smWrite_form (s := s) (xs := [v]) h.smForm hi }

theorem Inv.hostBmWrite {s : State} (h : Inv s) {j : Nat} (hj : j < s.params.bmBytes) (v : Byte) :
    Inv (s.hostBmWrite j v) := by
  unfold State.hostBmWrite
  split
  · exact h
  · exact { h with bmForm := State.bmWrite_form (s := s) (bs := [v]) h.bmForm hj }

theorem Inv.hostAccess {a : HostAccess} {s t : State} (h : Inv s) (ht : hostAccess a s = .next t) : Inv t := by
  obtain ⟨hr, ⟨r, -, rfl⟩ | ⟨r, v, -, rfl⟩ | ⟨i, -, -, rfl⟩ | ⟨i, v, -, hi, rfl⟩ | ⟨j, -, -, rfl⟩ |
    ⟨j, v, -, hj, rfl⟩⟩ := hostAccess_next ht
  · exact h.setReply _
  · exact h.writeReg hr r v
  · exact h.hostSmRead i
  · exact h.hostSmWrite hi v
  · exact h.hostBmRead j
  · exact h.hostBmWrite hj v

theorem Inv.setResetLine {s : State} (h : Inv s) (b : Bool) : Inv (s.setResetLine b) := by
  cases b with
  | false =>
    rw [State.setResetLine_false]
    exact { h with resetIdle := by simp }
  | true =>
    rw [State.setResetLine_true]
    exact { h with
      phaseRun := by simp
      busyNotDone := by simp
      busyClear := by simp
      errClear := fun hc => absurd rfl hc
      resetIdle := fun _ => rfl
      width := by simp
      recovered := by simp
      scrLength := s.freeInternals_scr_length
      idxRange := s.freeInternals_idx_le }

/-! ### The step -/

/-- Settles O59: a step is a turn of the TU, a host access or a change of the reset line, and each keeps `Inv`. -/
theorem stepKeepsTheInvariant : Obligations.StepKeepsTheInvariant := by
  intro s t h ht
  obtain ⟨rest, -, ht⟩ | ⟨a, rest, -, ha⟩ | ⟨b, rest, -, rfl⟩ := step_next ht
  · exact (h.setInputs rest).tuTurn ht
  · exact (h.setInputs rest).hostAccess ha
  · exact (h.setInputs rest).setResetLine b

end Sys2Proof.Machine

namespace Sys2Proof.Machine

/-! PROOF. The operands a command ignores (10_state.md R19, R20; 20_memory.md R38): a command's body commutes with
every update of the state that it does not see. -/

/-- A body that commutes with the update `U` of the state: it answers from the updated state what it answers from the
state, with the same update. -/
def CommutesWith (U : State → State) (body : State → Except ErrCode State) (s : State) : Prop :=
  body (U s) = U <$> body s

/-- An update that touches nothing a completion step sees commutes with the command. -/
theorem exec_update {U : State → State} {i : Instr} {s t : State}
    (hU : ∀ (u : State) (c : ErrCode), (U u).completeErr c = U (u.completeErr c))
    (hbody : CommutesWith U (commandBody · i) s) (h : exec i s = .next t) : exec i (U s) = .next (U t) := by
  rw [exec_eq_finish] at h ⊢
  rw [show commandBody (U s) i = U <$> commandBody s i from hbody]
  obtain ⟨u, hu, rfl⟩ | ⟨c, hc, rfl⟩ := finish_cases h
  · rw [hu]
    exact congrArg _ (hU u .none)
  · rw [hc]
    exact congrArg _ (hU s c)

/-! ### The three command bodies -/

theorem xfCommand_ignores_dstPtr (F : State → List Word → Except ErrCode (List Word)) (seed : List Word → Word)
    (s : State) (v : Word) (hF : F { s with dstPtr := v } = F s) :
    CommutesWith (fun s => { s with dstPtr := v }) (fun s => xfCommand true (F s) seed s) s := by
  simp only [CommutesWith, xfCommand, map_bind, hF]
  rfl

theorem xfCommand_ignores_bytes (self : Bool) (F : State → List Word → Except ErrCode (List Word))
    (seed : List Word → Word) (s : State) (v v' : Word) (m : List Host.Cell)
    (hF : F { s with bytePtr := v, byteCap := v', bm := m } = F s) :
    CommutesWith (fun s => { s with bytePtr := v, byteCap := v', bm := m })
      (fun s => xfCommand self (F s) seed s) s := by
  simp only [CommutesWith, xfCommand, map_bind, hF]
  rfl

theorem xfCommand_ignores_init (self : Bool) (F : State → List Word → Except ErrCode (List Word))
    (seed : List Word → Word) (s : State) (v : Word) (hF : F { s with init := v } = F s) :
    CommutesWith (fun s => { s with init := v }) (fun s => xfCommand self (F s) seed s) s := by
  simp only [CommutesWith, xfCommand, map_bind, hF]
  rfl

theorem packCommand_ignores_dstPtr (fam : Family) (bw : Nat) (s : State) (v : Word) :
    CommutesWith (fun s => { s with dstPtr := v }) (packCommand fam bw) s := by
  simp only [CommutesWith, packCommand, map_bind]
  rfl

theorem packCommand_ignores_init (fam : Family) (bw : Nat) (s : State) (v : Word) :
    CommutesWith (fun s => { s with init := v }) (packCommand fam bw) s := by
  simp only [CommutesWith, packCommand, map_bind]
  rfl

theorem unpackCommand_ignores_srcPtr (fam : Family) (bw : Nat) (s : State) (v : Word) :
    CommutesWith (fun s => { s with srcPtr := v }) (unpackCommand fam bw) s := by
  simp only [CommutesWith, unpackCommand, map_bind]
  rfl

theorem unpackCommand_ignores_init {fam : Family} (hfam : fam = .van ∨ fam = .m1) (bw : Nat) (s : State) (v : Word) :
    CommutesWith (fun s => { s with init := v }) (unpackCommand fam bw) s := by
  simp only [CommutesWith, unpackCommand, map_bind]
  obtain rfl | rfl := hfam <;> rfl

/-! ### The commands, by operand -/

theorem commandBody_ignores_dstPtr {i : Instr}
    (hi : i ∈ [Instr.xfVanFwdSelf, .xfVanInvSelf, .xfM1FwdSelf, .xfM1InvSelf, .xfD1zFwdSelf, .xfD1zInvSelf,
      .packVan i.bw, .packM1 i.bw, .packD1 i.bw, .packD1z i.bw]) (s : State) (v : Word) :
    CommutesWith (fun s => { s with dstPtr := v }) (commandBody · i) s := by
  cases i with
  | xfVanFwdSelf | xfVanInvSelf | xfM1FwdSelf | xfM1InvSelf | xfD1zFwdSelf | xfD1zInvSelf =>
    exact xfCommand_ignores_dstPtr _ _ s v rfl
  | packVan bw | packM1 bw | packD1 bw | packD1z bw => exact packCommand_ignores_dstPtr _ bw s v
  | _ => simp at hi

theorem commandBody_ignores_srcPtr {i : Instr}
    (hi : i ∈ [Instr.unpackVan i.bw, .unpackM1 i.bw, .unpackD1 i.bw, .unpackD1z i.bw]) (s : State) (v : Word) :
    CommutesWith (fun s => { s with srcPtr := v }) (commandBody · i) s := by
  cases i with
  | unpackVan bw | unpackM1 bw | unpackD1 bw | unpackD1z bw => exact unpackCommand_ignores_srcPtr _ bw s v
  | _ => simp at hi

theorem commandBody_ignores_bytes {i : Instr}
    (hi : i ∈ [Instr.xfVanFwd, .xfVanFwdSelf, .xfVanInv, .xfVanInvSelf, .xfM1Fwd, .xfM1FwdSelf, .xfM1Inv,
      .xfM1InvSelf, .xfD1zFwd, .xfD1zFwdSelf, .xfD1zInv, .xfD1zInvSelf])
    (s : State) (v v' : Word) (m : List Host.Cell) :
    CommutesWith (fun s => { s with bytePtr := v, byteCap := v', bm := m }) (commandBody · i) s := by
  cases i with
  | xfVanFwd | xfVanFwdSelf | xfVanInv | xfVanInvSelf | xfM1Fwd | xfM1FwdSelf | xfM1Inv | xfM1InvSelf
  | xfD1zFwd | xfD1zFwdSelf | xfD1zInv | xfD1zInvSelf => exact xfCommand_ignores_bytes _ _ _ s v v' m rfl
  | _ => simp at hi

theorem commandBody_ignores_init {i : Instr}
    (hi : i ∉ [Instr.xfD1zInv, .xfD1zInvSelf, .unpackD1 i.bw, .unpackD1z i.bw]) (s : State) (v : Word) :
    CommutesWith (fun s => { s with init := v }) (commandBody · i) s := by
  cases i with
  | xfD1zInv | xfD1zInvSelf | unpackD1 bw | unpackD1z bw => simp [Instr.bw] at hi
  | packVan bw | packM1 bw | packD1 bw | packD1z bw => exact packCommand_ignores_init _ bw s v
  | unpackVan bw => exact unpackCommand_ignores_init (.inl rfl) bw s v
  | unpackM1 bw => exact unpackCommand_ignores_init (.inr rfl) bw s v
  | _ => exact xfCommand_ignores_init _ _ _ s v rfl

/-- Settles O41: in each clause the body commutes with the update, and the completion step sees no operand. -/
theorem ignoredOperandsDoNotMatter : Obligations.IgnoredOperandsDoNotMatter := by
  intro i s t v v' m h
  refine ⟨fun hi => ?_, fun hi => ?_, fun hi => ?_, fun hi => ?_⟩
  · exact exec_update (fun _ _ => rfl) (commandBody_ignores_dstPtr hi s v) h
  · exact exec_update (fun _ _ => rfl) (commandBody_ignores_srcPtr hi s v) h
  · exact exec_update (fun _ _ => rfl) (commandBody_ignores_bytes hi s v v' m) h
  · exact exec_update (fun _ _ => rfl) (commandBody_ignores_init hi s v) h

end Sys2Proof.Machine

namespace Sys2Proof.Machine

/-! PROOF. The host's accesses (10_state.md R16 to R30; 20_memory.md R46, R47): what each defined access answers, then
the statements about registers, STATUS and PARAM. -/

/-! ### Every defined access answers -/

theorem hostAccess_regRead {s : State} (hr : s.resetLine = false) (r : Reg) :
    hostAccess (.regRead (s.params.regAddr r)) s = .next (s.setReply (.word (s.readReg r))) := by
  simp [hostAccess, hr]

theorem hostAccess_regWrite {s : State} (hr : s.resetLine = false) (r : Reg) (v : Word) :
    hostAccess (.regWrite (s.params.regAddr r) v) s = .next (s.writeReg r v) := by
  simp [hostAccess, hr]

theorem hostAccess_smRead {s : State} (hr : s.resetLine = false) {i : Nat} (hi : i < s.params.smWords) :
    hostAccess (.smRead i) s = .next (s.hostSmRead i) := by
  simp [hostAccess, hr, hi]

theorem hostAccess_smWrite {s : State} (hr : s.resetLine = false) {i : Nat} (hi : i < s.params.smWords) (v : Word) :
    hostAccess (.smWrite i v) s = .next (s.hostSmWrite i v) := by
  simp [hostAccess, hr, hi]

theorem hostAccess_bmRead {s : State} (hr : s.resetLine = false) {j : Nat} (hj : j < s.params.bmBytes) :
    hostAccess (.bmRead j) s = .next (s.hostBmRead j) := by
  simp [hostAccess, hr, hj]

theorem hostAccess_bmWrite {s : State} (hr : s.resetLine = false) {j : Nat} (hj : j < s.params.bmBytes) (v : Byte) :
    hostAccess (.bmWrite j v) s = .next (s.hostBmWrite j v) := by
  simp [hostAccess, hr, hj]

/-! ### What a write or a read does, by BUSY -/

theorem State.writeReg_of_busy {s : State} (hb : s.busy = true) (r : Reg) (v : Word) : s.writeReg r v = s := by
  simp [State.writeReg, hb]

theorem State.hostSmWrite_of_busy {s : State} (hb : s.busy = true) (i : Nat) (v : Word) : s.hostSmWrite i v = s := by
  simp [State.hostSmWrite, hb]

theorem State.hostBmWrite_of_busy {s : State} (hb : s.busy = true) (j : Nat) (v : Byte) : s.hostBmWrite j v = s := by
  simp [State.hostBmWrite, hb]

theorem State.hostSmRead_of_idle {s : State} (hb : s.busy = false) (i : Nat) :
    s.hostSmRead i = s.setReply (.word (s.smRead i)) := by
  simp [State.hostSmRead, hb]

theorem State.hostBmRead_of_idle {s : State} (hb : s.busy = false) (j : Nat) :
    s.hostBmRead j = s.setReply (.byte (s.bmRead j)) := by
  simp [State.hostBmRead, hb]

theorem State.hostSmRead_of_busy {s : State} (hb : s.busy = true) (i : Nat) :
    s.hostSmRead i = { s with reply := .word (Config.freeWord s.freeCount), freeCount := s.freeCount + 1 } := by
  simp [State.hostSmRead, hb]

theorem State.hostBmRead_of_busy {s : State} (hb : s.busy = true) (j : Nat) :
    s.hostBmRead j = { s with reply := .byte (Config.freeByte s.freeCount), freeCount := s.freeCount + 1 } := by
  simp [State.hostBmRead, hb]

theorem State.writeReg_ctrl_go {s : State} (hb : s.busy = false) {v : Word} (hv : v.getLsbD 0 = true) :
    s.writeReg .ctrl v = s.acceptGo := by
  simp only [State.writeReg, hb, State.writeCtrl, hv, if_true, Bool.false_eq_true, if_false]

theorem State.writeReg_ctrl_of_bit0_clear (s : State) {v : Word} (hv : v.getLsbD 0 = false) :
    s.writeReg .ctrl v = s := by
  cases hb : s.busy with
  | true => exact State.writeReg_of_busy hb .ctrl v
  | false => simp only [State.writeReg, hb, State.writeCtrl, hv, Bool.false_eq_true, if_false]

/-- The read-only and the reserved registers drop every write (R22 to R28). -/
theorem State.writeReg_readOnly (s : State) {r : Reg}
    (hmem : r ∈ [Reg.status, .result, .resolvedBw, .nRecovered, .seed, .param, .reserved38, .reserved3C])
    (v : Word) : s.writeReg r v = s := by
  cases r with
  | status | result | resolvedBw | nRecovered | seed | param | reserved38 | reserved3C => simp [State.writeReg]
  | _ => simp at hmem

/-! ### The statements -/

/-- Settles O42: a write of an operand register replaces one field, and each of the 16 registers reads its own. -/
theorem operandRegistersReadBack : Obligations.OperandRegistersReadBack := by
  intro s r v hmem hr hb
  refine ⟨s.writeReg r v, hostAccess_regWrite hr r v, ?_⟩
  cases r with
  | cmd | len | srcPtr | dstPtr | bytePtr | byteCap | init =>
    rw [State.writeReg, if_neg (by simp [hb])]
    refine ⟨rfl, fun r' hne => ?_, rfl, rfl, rfl, rfl, fun _ => rfl, fun _ => rfl⟩
    cases r' <;> simp [State.readReg, State.statusWord, State.resolvedBwWord, State.paramWord] at hne ⊢
  | _ => simp at hmem

/-- Settles O43: the GO is `acceptGo`; with BUSY = 1 or bit 0 clear the write of CTRL leaves the state as it is. -/
theorem ctrlWriteIsGo : Obligations.CtrlWriteIsGo := by
  intro s v hr
  rw [hostAccess_regWrite hr]
  refine ⟨fun hb hv => ⟨s.acceptGo, by rw [State.writeReg_ctrl_go hb hv], rfl, rfl, rfl, ⟨rfl, rfl, rfl, rfl⟩, rfl,
    by constructor <;> rfl, fun _ => rfl, fun _ => rfl⟩, fun hb => ?_, fun hv => ?_, rfl, rfl⟩
  · rw [State.writeReg_of_busy hb]
  · rw [State.writeReg_ctrl_of_bit0_clear s hv]

/-- Settles O44: each of the three kinds of write looks at BUSY first. -/
theorem writesWhileBusyAreDropped : Obligations.WritesWhileBusyAreDropped := by
  intro s hr hb
  refine ⟨fun r v => ?_, fun i v hi => ?_, fun j v hj => ?_⟩
  · rw [hostAccess_regWrite hr, State.writeReg_of_busy hb]
  · rw [hostAccess_smWrite hr hi, State.hostSmWrite_of_busy hb]
  · rw [hostAccess_bmWrite hr hj, State.hostBmWrite_of_busy hb]

/-- Settles O45: a read sets the reply, and during BUSY a memory read takes one free draw. -/
theorem readsHaveNoSideEffect : Obligations.ReadsHaveNoSideEffect := by
  intro s hr
  refine ⟨hostAccess_regRead hr, fun hb => ⟨fun i hi => ?_, fun j hj => ?_⟩,
    fun hb => ⟨fun i hi => ⟨Config.freeWord s.freeCount, ?_⟩, fun j hj => ⟨Config.freeByte s.freeCount, ?_⟩⟩⟩
  · rw [hostAccess_smRead hr hi, State.hostSmRead_of_idle hb, State.setReply]
  · rw [hostAccess_bmRead hr hj, State.hostBmRead_of_idle hb, State.setReply]
  · rw [hostAccess_smRead hr hi, State.hostSmRead_of_busy hb]
  · rw [hostAccess_bmRead hr hj, State.hostBmRead_of_busy hb]

/-- Settles O46: the two reserved registers hold no state, so they read 0. -/
theorem readOnlyRegistersIgnoreWrites : Obligations.ReadOnlyRegistersIgnoreWrites := by
  intro s v hr
  refine ⟨fun r hmem => ?_, rfl, rfl, rfl, rfl⟩
  rw [hostAccess_regWrite hr, s.writeReg_readOnly hmem]

/-- Settles O47: a bit of STATUS is a bit of the field it lies in. -/
theorem statusBits : Obligations.StatusBits := by
  refine ⟨fun s k => ?_, rfl⟩
  simp only [State.readReg, State.statusWord, BitVec.getLsbD_append]
  grind

/-- BL has 24 bits in a legal build (R7), so PARAM holds both its fields exactly (R27). -/
theorem State.paramWord_toNat {s : State} (h : s.params.legal) :
    s.paramWord.toNat = s.params.bl * 256 + s.params.arithCheck.toNat := by
  obtain ⟨-, hbl, -⟩ := h
  have hc := s.params.arithCheck.toNat_le
  rw [State.paramWord, BitVec.toNat_ofNat]
  omega

/-- Settles O48: the value of PARAM, read at the positions of its fields. -/
theorem paramReportsTheBuild : Obligations.ParamReportsTheBuild := by
  intro s h
  have hval := State.paramWord_toNat h
  obtain ⟨-, hbl, -⟩ := h
  have hc := s.params.arithCheck.toNat_le
  rw [show s.readReg .param = s.paramWord from rfl]
  refine ⟨hval, ?_, ?_, ?_⟩
  · rw [BitVec.extractLsb'_toNat, hval, Nat.shiftRight_eq_div_pow]
    omega
  · apply BitVec.eq_of_toNat_eq
    rw [BitVec.extractLsb'_toNat, hval, Nat.shiftRight_eq_div_pow]
    simp only [BitVec.toNat_ofNat]
    omega
  · rw [BitVec.getLsbD, hval, Nat.testBit_zero]
    cases s.params.arithCheck <;> simp <;> omega

end Sys2Proof.Machine

namespace Sys2Proof.Machine

/-! PROOF. From GO to completion (10_state.md R17, R21, R22, R32; 20_memory.md R47, R50): what a step does where the
next input is a host access or a turn of the TU, and which steps raise BUSY or clear DONE. -/

/-! ### The step, by its next input -/

theorem step_access {s : State} {a : HostAccess} {rest : List Input} (h : s.inputs = .access a :: rest) :
    step s = hostAccess a (s.setInputs rest) := by
  rw [step, h]

theorem step_of_tuNext {s : State} {rest : List Input} (h : s.tuNext rest) : step s = tuTurn (s.setInputs rest) := by
  obtain h | ⟨h, rfl⟩ := h
  · rw [step, h]
  · have hsame : s.setInputs [] = s := by rw [State.setInputs, ← h]
    rw [step, h, hsame]

theorem tuTurn_run {s : State} {i : Instr} (hp : s.phase = .run) (hi : decode s.cmd = some i) :
    tuTurn s = exec i s := by
  rw [tuTurn, hp]
  simp only [runCommand, hi]

/-- Settles O53: in PHASE RUN the TU's turn is `exec` of what CMD decodes to. -/
theorem stepRunsTheDecodedCommand : Obligations.StepRunsTheDecodedCommand := by
  intro s i rest hnext hp hi
  rw [step_of_tuNext hnext]
  exact tuTurn_run hp hi

/-! ### Runs of the machine -/

theorem core_run_succ {M : Host.Core} {s t : M.State} (k : Nat) (h : M.step s = .next t) :
    M.run (k + 1) s = M.run k t := by
  rw [Host.Core.run, h]

theorem core_run_one {M : Host.Core} (s : M.State) : M.run 1 s = M.step s := by
  rw [Host.Core.run]
  cases M.step s <;> rfl

@[simp] theorem State.acceptGo_statusWord (s : State) : s.acceptGo.statusWord = 1#32 := by
  simp [State.statusWord, ErrCode.code]

/-- The step of an accepted GO. -/
theorem step_hostGo {s : State} {rest : List Input} (h : s.inputs = hostGo s.params :: rest)
    (hr : s.resetLine = false) (hb : s.busy = false) : step s = .next (s.setInputs rest).acceptGo := by
  have hgo : (s.setInputs rest).writeReg .ctrl 1#32 = (s.setInputs rest).acceptGo :=
    State.writeReg_ctrl_go (s := s.setInputs rest) hb (by decide)
  rw [step_access h, ← hgo]
  exact hostAccess_regWrite (s := s.setInputs rest) hr .ctrl 1#32

/-- Settles O54: the GO leaves PHASE RUN and CMD as it was, so the turn after it runs that command. -/
theorem goThenTurnRunsTheCommand : Obligations.GoThenTurnRunsTheCommand := by
  intro s i rest hin hr hb hi
  have hgo := step_hostGo hin hr hb
  refine ⟨_, hgo, State.acceptGo_statusWord _, ⟨rfl, rfl, rfl, rfl⟩, ?_⟩
  have hrun : Host.Core.run core 2 s = step (s.setInputs (.tuTurn :: rest)).acceptGo :=
    (core_run_succ (M := core) 1 hgo).trans (core_run_one (M := core) _)
  exact hrun.trans (stepRunsTheDecodedCommand _ i rest (.inl rfl) rfl hi)

/-! ### What raises BUSY and what clears DONE -/

theorem exec_completed {i : Instr} {s t : State} (h : exec i s = .next t) : Completed t t.err := by
  rw [exec_eq_finish] at h
  obtain ⟨u, -, rfl⟩ | ⟨c, -, rfl⟩ := finish_cases h
  all_goals exact ⟨rfl, rfl, rfl, rfl⟩

/-- A turn of the TU does nothing or completes a command. -/
theorem tuTurn_same_or_completed {s t : State} (h : tuTurn s = .next t) : t = s ∨ Completed t t.err := by
  obtain ⟨-, rfl⟩ | ⟨-, -, rfl⟩ | ⟨-, i, -, hx⟩ := tuTurn_next h
  · exact .inl rfl
  · exact .inr ⟨rfl, rfl, rfl, rfl⟩
  · exact .inr (exec_completed hx)

/-- STATUS.BUSY and STATUS.DONE keep. -/
def SameBusyDone (s t : State) : Prop := t.busy = s.busy ∧ t.done = s.done

theorem State.hostSmRead_sameBusyDone (s : State) (i : Nat) : SameBusyDone s (s.hostSmRead i) := by
  unfold State.hostSmRead; split <;> exact ⟨rfl, rfl⟩

theorem State.hostBmRead_sameBusyDone (s : State) (j : Nat) : SameBusyDone s (s.hostBmRead j) := by
  unfold State.hostBmRead; split <;> exact ⟨rfl, rfl⟩

theorem State.hostSmWrite_sameBusyDone (s : State) (i : Nat) (v : Word) : SameBusyDone s (s.hostSmWrite i v) := by
  unfold State.hostSmWrite; split <;> exact ⟨rfl, rfl⟩

theorem State.hostBmWrite_sameBusyDone (s : State) (j : Nat) (v : Byte) : SameBusyDone s (s.hostBmWrite j v) := by
  unfold State.hostBmWrite; split <;> exact ⟨rfl, rfl⟩

/-- A host access is a write of CTRL with bit 0 set, or it keeps BUSY and DONE (R21, R22). -/
theorem hostAccess_go_or_sameBusyDone {a : HostAccess} {s t : State} (h : hostAccess a s = .next t) :
    (∃ v, a = .regWrite (s.params.regAddr .ctrl) v ∧ v.getLsbD 0 = true) ∨ SameBusyDone s t := by
  obtain ⟨-, ⟨r, -, rfl⟩ | ⟨r, v, rfl, rfl⟩ | ⟨i, -, -, rfl⟩ | ⟨i, v, -, -, rfl⟩ | ⟨j, -, -, rfl⟩ |
    ⟨j, v, -, -, rfl⟩⟩ := hostAccess_next h
  · exact .inr ⟨rfl, rfl⟩
  · obtain ⟨rfl, hv, -⟩ | ⟨_, _, _, _, _, _, _, e⟩ := s.writeReg_go_or_operands r v
    · exact .inl ⟨v, rfl, hv⟩
    · rw [e]
      exact .inr ⟨rfl, rfl⟩
  · exact .inr (s.hostSmRead_sameBusyDone i)
  · exact .inr (s.hostSmWrite_sameBusyDone i v)
  · exact .inr (s.hostBmRead_sameBusyDone j)
  · exact .inr (s.hostBmWrite_sameBusyDone j v)

/-- Settles O55: a turn of the TU only ends a command, and of the other inputs only GO and reset touch BUSY or DONE. -/
theorem onlyGoStartsACommand : Obligations.OnlyGoStartsACommand := by
  intro s t h
  obtain ⟨rest, -, ht⟩ | ⟨a, rest, hin, ha⟩ | ⟨b, rest, hin, rfl⟩ := step_next h
  · obtain rfl | hc := tuTurn_same_or_completed ht
    · exact ⟨by simp, by simp⟩
    · exact ⟨by simp [hc.busy], by simp [hc.done]⟩
  · obtain ⟨v, rfl, hv⟩ | ⟨hbusy, hdone⟩ := hostAccess_go_or_sameBusyDone ha
    · exact ⟨fun _ => ⟨v, rest, hin, hv⟩, fun _ => .inl ⟨v, rest, hin, hv⟩⟩
    · simp only [State.setInputs_busy, State.setInputs_done] at hbusy hdone
      exact ⟨by simp [hbusy], by simp [hdone]⟩
  · cases b with
    | false => exact ⟨by simp [State.setResetLine_false], by simp [State.setResetLine_false]⟩
    | true => exact ⟨by simp [State.setResetLine_true], fun _ => .inr ⟨rest, hin⟩⟩

end Sys2Proof.Machine

namespace Sys2Proof.Machine

/-! PROOF. The canonical form of memory (20_memory.md R37, R38; assumption log 3): what a canonical memory reads as
determines its list. -/

section Canonical

variable {w : Nat} (dflt : Nat → BitVec w)

theorem Memory.read_cons_self (c : Nat × BitVec w) (m : List (Nat × BitVec w)) :
    Memory.read dflt (c :: m) c.1 = c.2 := by
  simp [Memory.read]

/-- What the rest of a canonical memory reads as: the head's own index is unlisted there. -/
theorem Memory.read_tail {c : Nat × BitVec w} {m : List (Nat × BitVec w)} (hlt : ∀ d ∈ m, c.1 < d.1) (a : Nat) :
    Memory.read dflt m a = if a = c.1 then dflt a else Memory.read dflt (c :: m) a := by
  split
  · next ha => exact Memory.read_of_lt dflt (ha ▸ hlt)
  · next ha => simp [Memory.read, Ne.symm ha]

/-- A canonical memory is told apart, at its least index, from every memory that lists greater indices only. -/
theorem Memory.read_head_ne {c : Nat × BitVec w} {m m' : List (Nat × BitVec w)}
    (h : Memory.wf dflt (c :: m) = true) (hlt : ∀ d ∈ m', c.1 < d.1) :
    Memory.read dflt (c :: m) c.1 ≠ Memory.read dflt m' c.1 := by
  obtain ⟨hc, -, -⟩ := (Memory.wf_cons dflt).mp h
  rw [Memory.read_cons_self, Memory.read_of_lt dflt hlt]
  exact hc

/-- The head of a canonical memory has its least index. -/
theorem Memory.lt_of_lt_head {d : Nat × BitVec w} {m : List (Nat × BitVec w)} {i : Nat}
    (h : Memory.wf dflt (d :: m) = true) (hi : i < d.1) : ∀ e ∈ d :: m, i < e.1 := by
  obtain ⟨-, hlt, -⟩ := (Memory.wf_cons dflt).mp h
  exact List.forall_mem_cons.mpr ⟨hi, fun e he => hi.trans (hlt e he)⟩

/-- Canonical memories that read alike begin with the same entry. -/
theorem Memory.head_eq {c d : Nat × BitVec w} {m m' : List (Nat × BitVec w)}
    (hm : Memory.wf dflt (c :: m) = true) (hm' : Memory.wf dflt (d :: m') = true)
    (h : ∀ a, Memory.read dflt (c :: m) a = Memory.read dflt (d :: m') a) : c = d := by
  obtain hlt | heq | hgt := Nat.lt_trichotomy c.1 d.1
  · exact absurd (h c.1) (Memory.read_head_ne dflt hm (Memory.lt_of_lt_head dflt hm' hlt))
  · have hv : c.2 = d.2 := by
      rw [← Memory.read_cons_self dflt c m, h, heq, Memory.read_cons_self]
    exact Prod.ext heq hv
  · exact absurd (h d.1).symm (Memory.read_head_ne dflt hm' (Memory.lt_of_lt_head dflt hm hgt))

theorem Memory.eq_of_read_eq {m m' : List (Nat × BitVec w)} (hm : Memory.wf dflt m = true)
    (hm' : Memory.wf dflt m' = true) (h : ∀ a, Memory.read dflt m a = Memory.read dflt m' a) : m = m' := by
  induction m generalizing m' with
  | nil =>
    cases m' with
    | nil => rfl
    | cons d m' => exact absurd (h d.1).symm (Memory.read_head_ne dflt hm' (by simp))
  | cons c m ih =>
    cases m' with
    | nil => exact absurd (h c.1) (Memory.read_head_ne dflt hm (by simp))
    | cons d m' =>
      obtain rfl := Memory.head_eq dflt hm hm' h
      obtain ⟨-, hlt, hm⟩ := (Memory.wf_cons dflt).mp hm
      obtain ⟨-, hlt', hm'⟩ := (Memory.wf_cons dflt).mp hm'
      have htail : ∀ a, Memory.read dflt m a = Memory.read dflt m' a := by
        intro a
        rw [Memory.read_tail dflt hlt, Memory.read_tail dflt hlt', h]
      rw [ih hm hm' htail]

end Canonical

/-- Settles O60: by induction on the list; the heads agree, and so the tails read alike. -/
theorem canonicalMemoriesAreEqual : Obligations.CanonicalMemoriesAreEqual :=
  fun _ dflt _ _ hm hm' h => Memory.eq_of_read_eq dflt hm hm' h

end Sys2Proof.Machine

namespace Sys2Proof.Machine

/-! PROOF. What a command leaves unchanged (20_memory.md R37, R38, R43; 41_transform_commands.md R85;
43_composed_commands.md R113, R114, R120): each command writes one region of one memory, and no operand register. -/

/-! ### The region a command may write -/

/-- `n` cells of one memory, from index `p` on. -/
inductive WriteRegion where
  | sm (p n : Nat)
  | bm (p n : Nat)

/-- The cells that a command from `s` may write. -/
def writeRegion (s : State) : Instr → WriteRegion
  | .xfVanFwd | .xfVanInv | .xfM1Fwd | .xfM1Inv | .xfD1zFwd | .xfD1zInv => .sm (s.xfDst false) s.len.toNat
  | .xfVanFwdSelf | .xfVanInvSelf | .xfM1FwdSelf | .xfM1InvSelf | .xfD1zFwdSelf | .xfD1zInvSelf =>
    .sm (s.xfDst true) s.len.toNat
  | .packVan _ | .packM1 _ | .packD1 _ | .packD1z _ => .bm s.bytePtr.toNat s.byteCap.toNat
  | .unpackVan _ | .unpackM1 _ | .unpackD1 _ | .unpackD1z _ => .sm s.dstPtr.toNat s.params.bl

/-- From `s` to `t` the other memory keeps, and every cell outside the region. -/
def WriteRegion.Frame (s t : State) : WriteRegion → Prop
  | .sm p n => BmUnchanged s t ∧ ∀ k, k < p ∨ p + n ≤ k → t.smRead k = s.smRead k
  | .bm p n => SmUnchanged s t ∧ ∀ j, j < p ∨ p + n ≤ j → t.bmRead j = s.bmRead j

theorem WriteRegion.Frame.refl (s : State) (r : WriteRegion) : r.Frame s s := by
  cases r <;> exact ⟨fun _ => rfl, fun _ _ => rfl⟩

/-- A completion step writes no memory (R130, R131). -/
theorem WriteRegion.Frame.completeErr {s u : State} {r : WriteRegion} (h : r.Frame s u) (c : ErrCode) :
    r.Frame s (u.completeErr c) := by
  cases r <;> exact h

theorem writeRegion_transform {i : Instr} {self : Bool}
    (hi : (i, self) ∈ [(Instr.xfVanFwd, false), (.xfVanFwdSelf, true), (.xfVanInv, false),
        (.xfVanInvSelf, true), (.xfM1Fwd, false), (.xfM1FwdSelf, true), (.xfM1Inv, false), (.xfM1InvSelf, true),
        (.xfD1zFwd, false), (.xfD1zFwdSelf, true), (.xfD1zInv, false), (.xfD1zInvSelf, true)]) (s : State) :
    writeRegion s i = .sm (s.xfDst self) s.len.toNat := by
  cases i with
  | xfVanFwd | xfVanFwdSelf | xfVanInv | xfVanInvSelf | xfM1Fwd | xfM1FwdSelf | xfM1Inv | xfM1InvSelf
  | xfD1zFwd | xfD1zFwdSelf | xfD1zInv | xfD1zInvSelf =>
    obtain rfl := by simpa using hi
    rfl
  | _ => simp at hi

theorem writeRegion_pack {i : Instr}
    (hi : i ∈ [Instr.packVan i.bw, .packM1 i.bw, .packD1 i.bw, .packD1z i.bw]) (s : State) :
    writeRegion s i = .bm s.bytePtr.toNat s.byteCap.toNat := by
  cases i with
  | packVan bw | packM1 bw | packD1 bw | packD1z bw => rfl
  | _ => simp at hi

theorem writeRegion_not_pack {i : Instr}
    (hi : i ∉ [Instr.packVan i.bw, .packM1 i.bw, .packD1 i.bw, .packD1z i.bw]) (s : State) :
    ∃ p n, writeRegion s i = .sm p n := by
  cases i with
  | packVan bw | packM1 bw | packD1 bw | packD1z bw => simp [Instr.bw] at hi
  | _ => exact ⟨_, _, rfl⟩

theorem writeRegion_unpack {i : Instr}
    (hi : i ∈ [Instr.unpackVan i.bw, .unpackM1 i.bw, .unpackD1 i.bw, .unpackD1z i.bw]) (s : State) :
    writeRegion s i = .sm s.dstPtr.toNat s.params.bl := by
  cases i with
  | unpackVan bw | unpackM1 bw | unpackD1 bw | unpackD1z bw => rfl
  | _ => simp at hi

/-! ### A write of at most `n` cells keeps the cells outside them -/

theorem State.smRead_smWrite_outside (s : State) {p n k : Nat} {xs : List Word} (hn : xs.length ≤ n)
    (hk : k < p ∨ p + n ≤ k) : (s.smWrite p xs).smRead k = s.smRead k := by
  rw [State.smRead_smWrite, if_neg (by omega)]

theorem State.bmRead_bmWrite_outside (s : State) {p n j : Nat} {bs : List Byte} (hn : bs.length ≤ n)
    (hj : j < p ∨ p + n ≤ j) : (s.bmWrite p bs).bmRead j = s.bmRead j := by
  rw [State.bmRead_bmWrite, if_neg (by omega)]

/-! ### The command bodies -/

theorem xfCommand_frame {self : Bool} {F : List Word → Except ErrCode (List Word)} {seed : List Word → Word}
    {s u : State} (hF : ∀ S T, F S = .ok T → T.length = S.length) (hu : xfCommand self F seed s = .ok u) :
    (WriteRegion.sm (s.xfDst self) s.len.toNat).Frame s u := by
  obtain ⟨-, T, hT, rfl⟩ := xfCommand_ok.mp hu
  have hlen : T.length = s.len.toNat := by rw [hF _ _ hT, State.xfSource, State.smSeq_length]
  exact ⟨fun _ => rfl, fun _ hk => s.smRead_smWrite_outside hlen.le hk⟩

theorem packCommand_frame {fam : Family} {bw : Nat} {s u : State} (hu : packCommand fam bw s = .ok u) :
    (WriteRegion.bm s.bytePtr.toNat s.byteCap.toNat).Frame s u := by
  obtain ⟨-, -, T, w, -, -, hlen, rfl⟩ := packCommand_ok.mp hu
  exact ⟨fun _ => rfl, fun _ hj => s.bmRead_bmWrite_outside hlen hj⟩

theorem unpackCommand_frame {fam : Family} {bw : Nat} {s u : State} (hu : unpackCommand fam bw s = .ok u) :
    (WriteRegion.sm s.dstPtr.toNat s.params.bl).Frame s u := by
  obtain ⟨-, -, -, r, o, rfl, -, ho, rfl⟩ := unpackCommand_ok.mp hu
  obtain ⟨hlen, -⟩ := tsmInverse_spec ho
  rw [answerDecompress_length] at hlen
  exact ⟨fun _ => rfl, fun _ hk => s.smRead_smWrite_outside hlen.le hk⟩

theorem commandBody_frame {i : Instr} {s u : State} (hu : commandBody s i = .ok u) :
    (writeRegion s i).Frame s u := by
  cases i with
  | xfVanFwd | xfVanFwdSelf | xfVanInv | xfVanInvSelf =>
    exact xfCommand_frame (fun _ _ => tsmForward_length (fam := .van) (chk := false)) hu
  | xfM1Fwd | xfM1FwdSelf => exact xfCommand_frame (fun _ _ => tsmForward_length (fam := .m1) (chk := false)) hu
  | xfM1Inv | xfM1InvSelf => exact xfCommand_frame (fun _ _ => mapElements_length) hu
  | xfD1zFwd | xfD1zFwdSelf => exact xfCommand_frame (fun _ _ => deltaEncFrom_length) hu
  | xfD1zInv | xfD1zInvSelf => exact xfCommand_frame (fun _ _ => deltaDecFrom_length) hu
  | packVan bw | packM1 bw | packD1 bw | packD1z bw => exact packCommand_frame hu
  | unpackVan bw | unpackM1 bw | unpackD1 bw | unpackD1z bw => exact unpackCommand_frame hu

/-! ### The set-up -/

theorem SameSetup.refl (s : State) : SameSetup s s := by
  constructor <;> rfl

theorem SameSetup.completeErr {s u : State} (h : SameSetup s u) (c : ErrCode) : SameSetup s (u.completeErr c) :=
  { h with }

theorem commandBody_sameSetup {i : Instr} {s u : State} (hu : commandBody s i = .ok u) : SameSetup s u := by
  obtain ⟨self, F, seed, e, -⟩ | ⟨fam, bw, e⟩ | ⟨fam, bw, e⟩ := commandBody_cases s i <;> rw [e] at hu
  · obtain ⟨-, T, -, rfl⟩ := xfCommand_ok.mp hu
    constructor <;> rfl
  · obtain ⟨-, -, T, w, -, -, -, rfl⟩ := packCommand_ok.mp hu
    constructor <;> rfl
  · obtain ⟨-, -, -, r, o, -, -, -, rfl⟩ := unpackCommand_ok.mp hu
    constructor <;> rfl

/-! ### The commands -/

/-- What holds before a command, is kept by its body and by both completion steps holds after it. -/
theorem exec_induction {P : State → Prop} {i : Instr} {s t : State} (h : exec i s = .next t) (hs : P s)
    (hbody : ∀ u, commandBody s i = .ok u → P u) (hc : ∀ u c, P u → P (u.completeErr c)) : P t := by
  rw [exec_eq_finish] at h
  obtain ⟨u, hu, rfl⟩ | ⟨c, -, rfl⟩ := finish_cases h
  · exact hc u .none (hbody u hu)
  · exact hc s c hs

theorem exec_frame {i : Instr} {s t : State} (h : exec i s = .next t) : (writeRegion s i).Frame s t :=
  exec_induction h (.refl s _) (fun _ => commandBody_frame) (fun _ c hu => hu.completeErr c)

theorem exec_sameSetup {i : Instr} {s t : State} (h : exec i s = .next t) : SameSetup s t :=
  exec_induction h (.refl s) (fun _ => commandBody_sameSetup) (fun _ c hu => hu.completeErr c)

/-- Settles O40: each clause reads the frame of the command off its region. -/
theorem commandsLeaveTheOtherMemory : Obligations.CommandsLeaveTheOtherMemory := by
  intro i s t h
  have hframe := exec_frame h
  refine ⟨exec_sameSetup h, fun hi => ?_, fun hi => ?_, fun hi => ?_, fun self hi => ?_⟩
  · obtain ⟨p, n, hregion⟩ := writeRegion_not_pack hi s
    rw [hregion] at hframe
    exact hframe.1
  · rw [writeRegion_pack hi] at hframe
    exact hframe
  · rw [writeRegion_unpack hi] at hframe
    exact hframe.2
  · rw [writeRegion_transform hi] at hframe
    exact hframe.2

end Sys2Proof.Machine

namespace Sys2Proof.Machine

/-! PROOF. The host's port to the memories (20_memory.md R37, R38, R41; 10_state.md R28; 70_reset_and_hazards.md
R145): which steps answer, and what a write of a cell changes. -/

/-! ### What answers -/

theorem exec_answers (i : Instr) (s : State) : ∃ t, exec i s = .next t := by
  rw [exec_eq_finish]
  cases commandBody s i with
  | ok u => exact ⟨_, finish_ok s u⟩
  | error c => exact ⟨_, finish_error s c⟩

theorem tuTurn_answers (s : State) : ∃ t, tuTurn s = .next t := by
  unfold tuTurn runCommand
  split
  · exact ⟨s, rfl⟩
  · split
    · next i _ => exact exec_answers i s
    · exact ⟨_, finish_error s .illegal⟩

/-- A host access answers exactly where reset is released and the block defines it. -/
theorem hostAccess_answers_iff {a : HostAccess} {s : State} :
    (∃ t, hostAccess a s = .next t) ↔ s.resetLine = false ∧ a.defined s.params := by
  constructor
  · rintro ⟨t, h⟩
    obtain ⟨hr, ⟨r, rfl, -⟩ | ⟨r, v, rfl, -⟩ | ⟨i, rfl, hi, -⟩ | ⟨i, v, rfl, hi, -⟩ | ⟨j, rfl, hj, -⟩ |
      ⟨j, v, rfl, hj, -⟩⟩ := hostAccess_next h
    · exact ⟨hr, r, rfl⟩
    · exact ⟨hr, r, rfl⟩
    · exact ⟨hr, hi⟩
    · exact ⟨hr, hi⟩
    · exact ⟨hr, hj⟩
    · exact ⟨hr, hj⟩
  · rintro ⟨hr, ha⟩
    cases a with
    | regRead addr =>
      obtain ⟨r, rfl⟩ := ha
      exact ⟨_, hostAccess_regRead hr r⟩
    | regWrite addr v =>
      obtain ⟨r, rfl⟩ := ha
      exact ⟨_, hostAccess_regWrite hr r v⟩
    | smRead i => exact ⟨_, hostAccess_smRead hr ha⟩
    | smWrite i v => exact ⟨_, hostAccess_smWrite hr ha v⟩
    | bmRead j => exact ⟨_, hostAccess_bmRead hr ha⟩
    | bmWrite j v => exact ⟨_, hostAccess_bmWrite hr ha v⟩
    | otherWidth bits addr => exact ha.elim

theorem stepsOn_of_tuNext {s : State} {rest : List Input} (h : s.tuNext rest) : stepsOn s := by
  rw [stepsOn, step_of_tuNext h]
  exact tuTurn_answers _

theorem stepsOn_access {s : State} {a : HostAccess} {rest : List Input} (h : s.inputs = .access a :: rest) :
    stepsOn s ↔ s.resetLine = false ∧ a.defined s.params := by
  rw [stepsOn, step_access h]
  exact hostAccess_answers_iff

theorem stepsOn_resetLine {s : State} {b : Bool} {rest : List Input} (h : s.inputs = .resetLine b :: rest) :
    stepsOn s := by
  rw [stepsOn, step, h]
  exact ⟨_, rfl⟩

/-- Settles O50: a turn of the TU and a change of the reset line always answer, and a host access exactly there. -/
theorem onlyUndefinedAccessesStop : Obligations.OnlyUndefinedAccessesStop := by
  intro s
  refine ⟨fun h a rest hin => (stepsOn_access hin).mp h, fun h => ?_⟩
  cases hin : s.inputs with
  | nil => exact stepsOn_of_tuNext (.inr ⟨hin, rfl⟩)
  | cons input rest =>
    cases input with
    | tuTurn => exact stepsOn_of_tuNext (.inl hin)
    | access a => exact (stepsOn_access hin).mpr (h a rest hin)
    | resetLine b => exact stepsOn_resetLine hin

/-! ### A write of one cell -/

theorem State.hostSmWrite_of_idle {s : State} (hb : s.busy = false) (i : Nat) (v : Word) :
    s.hostSmWrite i v = s.smWrite i [v] := by
  simp [State.hostSmWrite, hb]

theorem State.hostBmWrite_of_idle {s : State} (hb : s.busy = false) (j : Nat) (v : Byte) :
    s.hostBmWrite j v = s.bmWrite j [v] := by
  simp [State.hostBmWrite, hb]

theorem State.smRead_smWrite_one (s : State) (i k : Nat) (v : Word) :
    (s.smWrite i [v]).smRead k = if k = i then v else s.smRead k :=
  Memory.read_write _ s.sm i k v

theorem State.bmRead_bmWrite_one (s : State) (j k : Nat) (v : Byte) :
    (s.bmWrite j [v]).bmRead k = if k = j then v else s.bmRead k :=
  Memory.read_write _ s.bm j k v

@[simp] theorem State.smWrite_readReg (s : State) (p : Nat) (xs : List Word) (r : Reg) :
    (s.smWrite p xs).readReg r = s.readReg r := by
  cases r <;> rfl

@[simp] theorem State.bmWrite_readReg (s : State) (p : Nat) (bs : List Byte) (r : Reg) :
    (s.bmWrite p bs).readReg r = s.readReg r := by
  cases r <;> rfl

theorem State.smWrite_sameSetup (s : State) (p : Nat) (xs : List Word) : SameSetup s (s.smWrite p xs) := by
  constructor <;> rfl

theorem State.bmWrite_sameSetup (s : State) (p : Nat) (bs : List Byte) : SameSetup s (s.bmWrite p bs) := by
  constructor <;> rfl

/-- Settles O49: while BUSY = 0 the access is a write of one cell, and no register reads a memory. -/
theorem hostMemoryWritesReadBack : Obligations.HostMemoryWritesReadBack := by
  intro s hr hb
  refine ⟨fun i v hi => ⟨s.smWrite i [v], ?_, ?_, fun k hk => ?_, fun _ => rfl, s.smWrite_sameSetup i [v],
      s.smWrite_readReg i [v]⟩,
    fun j v hj => ⟨s.bmWrite j [v], ?_, ?_, fun k hk => ?_, fun _ => rfl, s.bmWrite_sameSetup j [v],
      s.bmWrite_readReg j [v]⟩⟩
  · rw [hostAccess_smWrite hr hi, State.hostSmWrite_of_idle hb]
  · rw [State.smRead_smWrite_one, if_pos rfl]
  · rw [State.smRead_smWrite_one, if_neg hk]
  · rw [hostAccess_bmWrite hr hj, State.hostBmWrite_of_idle hb]
  · rw [State.bmRead_bmWrite_one, if_pos rfl]
  · rw [State.bmRead_bmWrite_one, if_neg hk]

end Sys2Proof.Machine

namespace Sys2Proof

/-! PROOF. The command word (30_encoding.md R56 to R62): a word with reserved bits 0 is its fields put together, what
the decoder answers by CLASS, and the commands `XF` and `PK` of R61 against the rows of R59. -/

/-! ### The fields of a word -/

section Fields

variable (bw : BitVec 8) (self cls dir : BitVec 1) (fam : BitVec 2)

@[simp] theorem fieldFam_packFields : fieldFam (packFields bw self cls dir fam) = fam := by
  ext k hk
  unfold fieldFam packFields
  grind

@[simp] theorem fieldDir_packFields : fieldDir (packFields bw self cls dir fam) = dir := by
  ext k hk
  unfold fieldDir packFields
  grind

@[simp] theorem fieldClass_packFields : fieldClass (packFields bw self cls dir fam) = cls := by
  ext k hk
  unfold fieldClass packFields
  grind

@[simp] theorem fieldSelf_packFields : fieldSelf (packFields bw self cls dir fam) = self := by
  ext k hk
  unfold fieldSelf packFields
  grind

@[simp] theorem fieldRsv0_packFields : fieldRsv0 (packFields bw self cls dir fam) = 0#3 := by
  ext k hk
  unfold fieldRsv0 packFields
  grind

@[simp] theorem fieldBw_packFields : fieldBw (packFields bw self cls dir fam) = bw := by
  ext k hk
  unfold fieldBw packFields
  grind

@[simp] theorem fieldRsv1_packFields : fieldRsv1 (packFields bw self cls dir fam) = 0#16 := by
  ext k hk
  unfold fieldRsv1 packFields
  grind

end Fields

/-- A word is its seven fields one after the other (R56). -/
theorem fields_append (w : Word) :
    (fieldRsv1 w ++ fieldBw w ++ fieldRsv0 w ++ fieldSelf w ++ fieldClass w ++ fieldDir w ++ fieldFam w : BitVec 32) =
      w := by
  ext k hk
  unfold fieldRsv1 fieldBw fieldRsv0 fieldSelf fieldClass fieldDir fieldFam
  grind

theorem packFields_fields {w : Word} (h1 : fieldRsv1 w = 0#16) (h0 : fieldRsv0 w = 0#3) :
    packFields (fieldBw w) (fieldSelf w) (fieldClass w) (fieldDir w) (fieldFam w) = w := by
  have hw := fields_append w
  rw [h1, h0] at hw
  exact hw

/-! ### The commands `XF` and `PK` of R61 -/

/-- The number of a family in field FAM (R56), the inverse of `familyOf`. -/
def familyCode : Family → BitVec 2
  | .van => 0#2
  | .m1 => 1#2
  | .d1 => 2#2
  | .d1z => 3#2

@[simp] theorem familyOf_familyCode (fam : Family) : familyOf (familyCode fam) = fam := by
  cases fam <;> rfl

@[simp] theorem familyCode_familyOf (f : BitVec 2) : familyCode (familyOf f) = f := by
  decide +revert

@[simp] theorem ofBool_beq_one (b : BitVec 1) : BitVec.ofBool (b == 1#1) = b := by
  decide +revert

theorem familyOf_eq_d1_iff {f : BitVec 2} : familyOf f = .d1 ↔ f = 2#2 := by
  constructor
  · intro h
    rw [← familyCode_familyOf f, h, familyCode]
  · rintro rfl
    exact familyOf_familyCode .d1

/-- `XF` has a command for every family but D1 (R60 b). -/
theorem xfCommandOf_eq_none_iff {fam : Family} {inv self : Bool} : xfCommandOf fam inv self = none ↔ fam = .d1 := by
  unfold xfCommandOf
  split <;> simp

/-- The rows XF of R59: the fields in the word of the command, and no operand. -/
theorem encode_of_xfCommandOf {fam : Family} {inv self : Bool} {i : Instr} (h : xfCommandOf fam inv self = some i) :
    encode i = packFields 0#8 (BitVec.ofBool self) 0#1 (BitVec.ofBool inv) (familyCode fam) ∧ i.bw = 0 := by
  unfold xfCommandOf at h
  split at h <;> cases h <;> exact ⟨rfl, rfl⟩

/-- The rows PK of R59: the fields in the word of the command. -/
theorem encode_pkCommandOf (fam : Family) (inv : Bool) (bw : Nat) :
    encode (pkCommandOf fam inv bw) =
      packFields (BitVec.ofNat 8 bw) 0#1 1#1 (BitVec.ofBool inv) (familyCode fam) := by
  unfold pkCommandOf
  split <;> rfl

@[simp] theorem pkCommandOf_bw (fam : Family) (inv : Bool) (bw : Nat) : (pkCommandOf fam inv bw).bw = bw := by
  unfold pkCommandOf
  split <;> rfl

/-! ### The decoder, by CLASS -/

theorem decode_of_reserved {w : Word} (h : fieldRsv1 w ≠ 0#16 ∨ fieldRsv0 w ≠ 0#3) : decode w = none :=
  if_pos h

theorem decode_of_xf {w : Word} (h1 : fieldRsv1 w = 0#16) (h0 : fieldRsv0 w = 0#3) (hc : fieldClass w = 0#1) :
    decode w = if fieldBw w ≠ 0#8 then none
      else xfCommandOf (familyOf (fieldFam w)) (fieldDir w == 1#1) (fieldSelf w == 1#1) := by
  simp [decode, h1, h0, hc]

theorem decode_of_pk {w : Word} (h1 : fieldRsv1 w = 0#16) (h0 : fieldRsv0 w = 0#3) (hc : fieldClass w = 1#1) :
    decode w = if fieldSelf w = 1#1 then none
      else some (pkCommandOf (familyOf (fieldFam w)) (fieldDir w == 1#1) (fieldBw w).toNat) := by
  simp [decode, h1, h0, hc]

theorem decode_packFields_xf (self dir : BitVec 1) (fam : BitVec 2) :
    decode (packFields 0#8 self 0#1 dir fam) = xfCommandOf (familyOf fam) (dir == 1#1) (self == 1#1) := by
  simp [decode_of_xf]

theorem decode_packFields_pk (dir : BitVec 1) (fam : BitVec 2) {bw : Nat} (hbw : bw < 256) :
    decode (packFields (BitVec.ofNat 8 bw) 0#1 1#1 dir fam) = some (pkCommandOf (familyOf fam) (dir == 1#1) bw) := by
  simp [decode_of_pk, Nat.mod_eq_of_lt hbw]

/-- The inversion lemma of the decoder: a word it accepts is the word of an XF or of a PK command. -/
theorem decode_eq_some {w : Word} {i : Instr} (h : decode w = some i) :
    (∃ fam inv self, xfCommandOf fam inv self = some i ∧
      w = packFields 0#8 (BitVec.ofBool self) 0#1 (BitVec.ofBool inv) (familyCode fam)) ∨
    (∃ fam inv, ∃ bw : BitVec 8, i = pkCommandOf fam inv bw.toNat ∧
      w = packFields bw 0#1 1#1 (BitVec.ofBool inv) (familyCode fam)) := by
  by_cases hr : fieldRsv1 w ≠ 0#16 ∨ fieldRsv0 w ≠ 0#3
  · rw [decode_of_reserved hr] at h
    cases h
  obtain ⟨h1, h0⟩ : fieldRsv1 w = 0#16 ∧ fieldRsv0 w = 0#3 := by simpa using hr
  have hw := packFields_fields h1 h0
  obtain hc | hc := BitVec.eq_zero_or_eq_one (fieldClass w)
  · rw [decode_of_xf h1 h0 hc] at h
    split at h
    · cases h
    · next hb =>
      rw [not_not.mp hb, hc] at hw
      exact .inl ⟨_, _, _, h, by simpa using hw.symm⟩
  · rw [decode_of_pk h1 h0 hc] at h
    split at h
    · cases h
    · next hs =>
      cases h
      rw [(BitVec.eq_zero_or_eq_one _).resolve_right hs, hc] at hw
      exact .inr ⟨_, _, _, rfl, by simpa using hw.symm⟩

/-- R60: the four kinds of illegal word. -/
theorem decode_eq_none_iff {w : Word} :
    decode w = none ↔
      (fieldRsv1 w ≠ 0#16 ∨ fieldRsv0 w ≠ 0#3) ∨ (fieldClass w = 0#1 ∧ fieldFam w = 2#2) ∨
        (fieldClass w = 0#1 ∧ fieldBw w ≠ 0#8) ∨ (fieldClass w = 1#1 ∧ fieldSelf w = 1#1) := by
  by_cases hr : fieldRsv1 w ≠ 0#16 ∨ fieldRsv0 w ≠ 0#3
  · simp only [decode_of_reserved hr, hr, true_or]
  obtain ⟨h1, h0⟩ : fieldRsv1 w = 0#16 ∧ fieldRsv0 w = 0#3 := by simpa using hr
  obtain hc | hc := BitVec.eq_zero_or_eq_one (fieldClass w)
  · rw [decode_of_xf h1 h0 hc]
    by_cases hb : fieldBw w = 0#8 <;> simp [h1, h0, hc, hb, xfCommandOf_eq_none_iff, familyOf_eq_d1_iff]
  · rw [decode_of_pk h1 h0 hc]
    simp [h1, h0, hc]

/-! ### The statements -/

/-- Settles O1: the word of a command is its fields put together, and the decoder reads them by CLASS. -/
theorem decodeInvertsEncode : Obligations.DecodeInvertsEncode := by
  intro i hwf
  have hbw : i.bw < 256 := of_decide_eq_true hwf
  cases i with
  | xfVanFwd | xfVanFwdSelf | xfVanInv | xfVanInvSelf | xfM1Fwd | xfM1FwdSelf | xfM1Inv | xfM1InvSelf
  | xfD1zFwd | xfD1zFwdSelf | xfD1zInv | xfD1zInvSelf => exact decode_packFields_xf _ _ _
  | packVan bw | packM1 bw | packD1 bw | packD1z bw
  | unpackVan bw | unpackM1 bw | unpackD1 bw | unpackD1z bw => exact decode_packFields_pk _ _ hbw

/-- Settles O2: an accepted word is put together from its fields, and so is the word of the command it gives. -/
theorem legalWordsAreEncodings : Obligations.LegalWordsAreEncodings := by
  intro w i h
  obtain ⟨fam, inv, self, hi, rfl⟩ | ⟨fam, inv, bw, rfl, rfl⟩ := decode_eq_some h
  · obtain ⟨henc, hbw⟩ := encode_of_xfCommandOf hi
    exact ⟨by simp [Instr.wellFormed, hbw], henc⟩
  · have hwf : (pkCommandOf fam inv bw.toNat).wellFormed = true := by simpa [Instr.wellFormed] using bw.isLt
    exact ⟨hwf, by rw [encode_pkCommandOf, BitVec.ofNat_toNat, BitVec.setWidth_eq]⟩

/-- Settles O4: the six legal words are the words of their commands (O1); of the two others one is XF of D1 and one
is PK with SELF = 1. -/
theorem sampleWordsDecode : Obligations.SampleWordsDecode :=
  ⟨decodeInvertsEncode .xfVanFwd rfl, decodeInvertsEncode .xfD1zInvSelf rfl, decodeInvertsEncode .xfM1FwdSelf rfl,
    decodeInvertsEncode (.packD1z 0) rfl, decodeInvertsEncode (.unpackM1 3) rfl,
    decodeInvertsEncode (.unpackVan 255) rfl, decode_eq_none_iff.mpr (.inr (.inl ⟨rfl, rfl⟩)),
    decode_eq_none_iff.mpr (.inr (.inr (.inr ⟨rfl, rfl⟩)))⟩

end Sys2Proof

namespace Sys2Proof.Machine

/-! PROOF. The turn of the TU on an illegal command (30_encoding.md R60; 60_exceptions.md R131). -/

theorem tuTurn_illegal {s : State} (hp : s.phase = .run) (hn : decode s.cmd = none) :
    tuTurn s = .next (s.completeErr .illegal) := by
  rw [tuTurn, hp]
  simp only [runCommand, hn, finish_error]

theorem State.completeErr_completed (s : State) (c : ErrCode) : Completed (s.completeErr c) c :=
  ⟨rfl, rfl, rfl, rfl⟩

/-- Settles O3: the kinds are those of the decoder's branches, and the completion step of an error keeps the rest. -/
theorem illegalWordsCompleteWithErrIllegal : Obligations.IllegalWordsCompleteWithErrIllegal :=
  ⟨fun _ => decode_eq_none_iff, fun s hp hn =>
    ⟨s.completeErr .illegal, tuTurn_illegal hp hn, s.completeErr_completed .illegal,
      (SameSetup.refl s).completeErr .illegal, s.completeErr_smRead .illegal, s.completeErr_bmRead .illegal,
      rfl, rfl, rfl, rfl⟩⟩

end Sys2Proof.Machine

namespace Sys2Proof.Machine

/-! PROOF. The narrowing of exact results and the offset remap unit (40_element_datapath.md R66, R68 to R70). -/

/-! ### `fit32` -/

theorem toNat_ofInt32 (v : Int) : ((BitVec.ofInt 32 v).toNat : Int) = v % 2 ^ 32 := by
  rw [BitVec.toNat_ofInt]
  omega

/-- A word is the wrapped form of every integer congruent to it modulo 2^32. -/
theorem ofInt32_eq_of_emod {v : Int} {w : Word} (h : v % 2 ^ 32 = w.toNat) : BitVec.ofInt 32 v = w := by
  apply BitVec.eq_of_toNat_eq
  have hv := toNat_ofInt32 v
  omega

/-- Without the range check, `fit32` wraps every value. -/
@[simp] theorem fit32_false (v : Int) : fit32 false v = .ok (BitVec.ofInt 32 v) := by
  simp [fit32]

theorem fit32_of_inRange {v : Int} (h : 0 ≤ v ∧ v ≤ 2 ^ 32 - 1) (chk : Bool) :
    fit32 chk v = .ok (BitVec.ofInt 32 v) :=
  if_pos h

theorem fit32_true_eq_error_iff {v : Int} : fit32 true v = .error .range ↔ ¬ (0 ≤ v ∧ v ≤ 2 ^ 32 - 1) := by
  constructor
  · intro h hv
    simp [fit32_of_inRange hv] at h
  · intro hv
    rw [fit32, if_neg hv, if_pos rfl]

/-- With no range event both builds answer the same. -/
theorem fit32_true_of_ne_error {v : Int} (h : fit32 true v ≠ .error .range) : fit32 true v = fit32 false v := by
  have hv : 0 ≤ v ∧ v ≤ 2 ^ 32 - 1 := not_not.mp (mt fit32_true_eq_error_iff.mpr h)
  rw [fit32_of_inRange hv, fit32_false]

/-- A value that is a word narrows to that word, in both builds. -/
theorem fit32_toNat (chk : Bool) (w : Word) : fit32 chk (w.toNat : Int) = .ok w := by
  rw [fit32_of_inRange (by omega), BitVec.ofInt_natCast, BitVec.ofNat_toNat, BitVec.setWidth_eq]

/-- Settles O5: `fit32` has the three branches of R66. -/
theorem fit32WrapsOrChecks : Obligations.Fit32WrapsOrChecks := by
  intro v
  refine ⟨fun hv chk => ⟨_, fit32_of_inRange hv chk, ?_⟩, fun hv =>
    ⟨⟨_, fit32_false v, toNat_ofInt32 v⟩, fit32_true_eq_error_iff.mpr hv⟩⟩
  rw [toNat_ofInt32]
  omega

/-! ### The offset remap unit -/

theorem toNat_ofsFwd {x : Word} (h : 1 ≤ x.toNat) : (ofsFwd x).toNat = x.toNat - 1 := by
  unfold ofsFwd
  bv_omega

theorem ofsFwd_add_one (y : Word) : ofsFwd (y + 1#32) = y :=
  BitVec.add_sub_cancel y 1#32

/-- `OFS_INV` has no range event below the last word. -/
theorem ofsInv_of_toNat_lt (chk : Bool) {y : Word} (h : y.toNat < 0xFFFFFFFF) : ofsInv chk y = .ok (y + 1#32) := by
  have hy : (y.toNat : Int) + 1 = (y + 1#32).toNat := by bv_omega
  rw [ofsInv, hy, fit32_toNat]

/-- Settles O7: below 0xFFFFFFFF the exact sum is a word; at it the sum is 2^32. -/
theorem offsetInverseRangeEvent : Obligations.OffsetInverseRangeEvent :=
  ⟨fun chk _ hy => ofsInv_of_toNat_lt chk (by bv_omega), by decide, by decide⟩

/-- Settles O6: on its domain each direction is a difference of 1 with no wrap, undone by the other. -/
theorem offsetBijection : Obligations.OffsetBijection := by
  refine ⟨fun chk x hx => ?_, fun chk y hy => ?_, fun S h0 => m1Forward_error.mpr ⟨h0, rfl⟩⟩
  · have hlt : (ofsFwd x).toNat < 0xFFFFFFFF := by have := toNat_ofsFwd hx; omega
    rw [ofsInv_of_toNat_lt chk hlt, ofsFwd, BitVec.sub_add_cancel]
  · exact ⟨y + 1#32, ofsInv_of_toNat_lt chk (by omega), ofsFwd_add_one y⟩

end Sys2Proof.Machine

namespace Sys2Proof.Machine

/-! PROOF. The zigzag coder and decoder (40_element_datapath.md R71 to R73): each narrows one exact value, and the
range events and the round trip are read off these two values. -/

/-! ### The exact code and the exact decoded value -/

/-- What `ZZ_ENC` computes before `fit32` (R71): the zigzag image of the signed difference. -/
def zigzagCode (pre cur : Word) : Int :=
  if cur.toNat < pre.toNat then 2 * ((pre.toNat : Int) - cur.toNat) - 1 else 2 * ((cur.toNat : Int) - pre.toNat)

/-- What `ZZ_DEC` computes before `fit32` (R72). -/
def zigzagValue (pre code : Word) : Int :=
  if code.toNat % 2 = 1 then (pre.toNat : Int) - (code.toNat / 2 : Nat) - 1
  else (pre.toNat : Int) + (code.toNat / 2 : Nat)

theorem zzEnc_eq_fit32 (chk : Bool) (pre cur : Word) : zzEnc chk pre cur = fit32 chk (zigzagCode pre cur) := by
  unfold zzEnc zigzagCode
  simp only [BitVec.lt_def]
  split <;> rfl

theorem zzDec_eq_fit32 (chk : Bool) (pre code : Word) : zzDec chk pre code = fit32 chk (zigzagValue pre code) := by
  have hm : code.toNat % 2 > 0 ↔ code.toNat % 2 = 1 := by omega
  unfold zzDec zigzagValue
  simp only [hm]
  split <;> rfl

theorem zigzagCode_of_lt {pre cur : Word} (h : cur.toNat < pre.toNat) :
    zigzagCode pre cur = 2 * ((pre.toNat : Int) - cur.toNat) - 1 :=
  if_pos h

theorem zigzagCode_of_le {pre cur : Word} (h : pre.toNat ≤ cur.toNat) :
    zigzagCode pre cur = 2 * ((cur.toNat : Int) - pre.toNat) :=
  if_neg (by omega)

theorem zigzagValue_of_odd {pre code : Word} (h : code.toNat % 2 = 1) :
    zigzagValue pre code = (pre.toNat : Int) - (code.toNat / 2 : Nat) - 1 :=
  if_pos h

theorem zigzagValue_of_even {pre code : Word} (h : code.toNat % 2 = 0) :
    zigzagValue pre code = (pre.toNat : Int) + (code.toNat / 2 : Nat) :=
  if_neg (by omega)

theorem zzEnc_false (pre cur : Word) : zzEnc false pre cur = .ok (BitVec.ofInt 32 (zigzagCode pre cur)) := by
  rw [zzEnc_eq_fit32, fit32_false]

theorem zzDec_false (pre code : Word) : zzDec false pre code = .ok (BitVec.ofInt 32 (zigzagValue pre code)) := by
  rw [zzDec_eq_fit32, fit32_false]

/-! ### Range events -/

/-- Settles O8: `ZZ_ENC` narrows the exact code, which is never negative. -/
theorem zigzagEncodeFormula : Obligations.ZigzagEncodeFormula := by
  intro pre cur
  refine ⟨fun h => ⟨_, zzEnc_false pre cur, ?_⟩, fun h => ⟨_, zzEnc_false pre cur, ?_⟩, ?_, fun h => ?_⟩
  · rw [toNat_ofInt32, zigzagCode_of_lt h]
  · rw [toNat_ofInt32, zigzagCode_of_le h]
  · rw [zzEnc_eq_fit32, fit32_true_eq_error_iff]
    obtain h | h := Nat.lt_or_ge cur.toNat pre.toNat
    · rw [zigzagCode_of_lt h]
      omega
    · rw [zigzagCode_of_le h]
      omega
  · rw [zzEnc_eq_fit32] at h ⊢
    rw [zzEnc_eq_fit32, fit32_true_of_ne_error h]

/-- Settles O9: `ZZ_DEC` narrows the exact value, which leaves the words below for an odd code and above for an
even one. -/
theorem zigzagDecodeFormula : Obligations.ZigzagDecodeFormula := by
  intro pre code
  refine ⟨fun h => ⟨_, zzDec_false pre code, ?_⟩, fun h => ⟨_, zzDec_false pre code, ?_⟩, ?_, fun h => ?_⟩
  · rw [toNat_ofInt32, zigzagValue_of_odd h]
  · rw [toNat_ofInt32, zigzagValue_of_even h]
  · rw [zzDec_eq_fit32, fit32_true_eq_error_iff]
    obtain h | h := Nat.mod_two_eq_zero_or_one code.toNat
    · rw [zigzagValue_of_even h]
      omega
    · rw [zigzagValue_of_odd h]
      omega
  · exact (zzDec_checked_cases pre code).resolve_left h

/-- The exact code is a word exactly on the zigzag domain (R73). -/
theorem zigzagCode_inRange_iff (pre cur : Word) :
    (0 ≤ zigzagCode pre cur ∧ zigzagCode pre cur ≤ 2 ^ 32 - 1) ↔ inZigzagDomain pre cur := by
  unfold inZigzagDomain
  obtain h | h := Nat.lt_or_ge cur.toNat pre.toNat
  · rw [zigzagCode_of_lt h]
    omega
  · rw [zigzagCode_of_le h]
    omega

/-! ### The round trip -/

/-- Where no range event narrows the code, the exact value decoded from it is the element (R73 item 1). -/
theorem zigzagValue_zigzagCode {pre cur code : Word} (hc : (code.toNat : Int) = zigzagCode pre cur) :
    zigzagValue pre code = cur.toNat := by
  obtain h | h := Nat.lt_or_ge cur.toNat pre.toNat
  · rw [zigzagCode_of_lt h] at hc
    rw [zigzagValue_of_odd (by omega)]
    omega
  · rw [zigzagCode_of_le h] at hc
    rw [zigzagValue_of_even (by omega)]
    omega

/-- Off the domain the code has lost 2^32, which is 2^31 in the value decoded from it (R73 item 3). -/
theorem zigzagValue_wrapped_zigzagCode {pre cur code : Word} (hd : ¬ inZigzagDomain pre cur)
    (hc : (code.toNat : Int) = zigzagCode pre cur % 2 ^ 32) :
    zigzagValue pre code % 2 ^ 32 = (cur.toNat + 2 ^ 31 : Int) % 2 ^ 32 := by
  unfold inZigzagDomain at hd
  obtain h | h := Nat.lt_or_ge cur.toNat pre.toNat
  · rw [zigzagCode_of_lt h] at hc
    rw [zigzagValue_of_odd (by omega)]
    omega
  · rw [zigzagCode_of_le h] at hc
    rw [zigzagValue_of_even (by omega)]
    omega

/-- On the domain the coder and the decoder round-trip with no range event in either build, and the code is exact. -/
theorem zzDec_zzEnc_of_inDomain (chk : Bool) {pre cur : Word} (hd : inZigzagDomain pre cur) :
    ∃ code, zzEnc chk pre cur = .ok code ∧ zzDec chk pre code = .ok cur ∧
      (code.toNat : Int) = zigzagCode pre cur := by
  have hr := (zigzagCode_inRange_iff pre cur).mpr hd
  have hc : ((BitVec.ofInt 32 (zigzagCode pre cur)).toNat : Int) = zigzagCode pre cur := by
    rw [toNat_ofInt32]
    omega
  refine ⟨_, by rw [zzEnc_eq_fit32, fit32_of_inRange hr], ?_, hc⟩
  rw [zzDec_eq_fit32, zigzagValue_zigzagCode hc, fit32_toNat]

/-- Off the domain, wrapping, the round trip adds 2^31. -/
theorem zzDec_zzEnc_of_offDomain {pre cur : Word} (hd : ¬ inZigzagDomain pre cur) :
    zzDec false pre (BitVec.ofInt 32 (zigzagCode pre cur)) = .ok (cur + 0x80000000#32) := by
  have hv := zigzagValue_wrapped_zigzagCode hd (toNat_ofInt32 (zigzagCode pre cur))
  have hcur : (cur + 0x80000000#32).toNat = (cur.toNat + 2 ^ 31) % 2 ^ 32 := BitVec.toNat_add cur _
  rw [zzDec_false, ofInt32_eq_of_emod]
  omega

/-- Adding 2^31 flips bit 31: the carry leaves the word. -/
theorem xor_signBit (x : Word) : x ^^^ 0x80000000#32 = x + 0x80000000#32 := by
  apply BitVec.eq_of_toNat_eq
  have hlow : (x.toNat ^^^ 2 ^ 31) % 2 ^ 31 = x.toNat % 2 ^ 31 := by
    rw [Nat.xor_mod_two_pow, Nat.mod_self, Nat.xor_zero]
  have hhigh : (x.toNat ^^^ 2 ^ 31) / 2 ^ 31 = 1 - x.toNat / 2 ^ 31 := by
    rw [Nat.xor_div_two_pow, Nat.div_self (by decide)]
    obtain h | h : x.toNat / 2 ^ 31 = 0 ∨ x.toNat / 2 ^ 31 = 1 := by omega
    all_goals rw [h]; rfl
  have hxor : (x ^^^ 0x80000000#32).toNat = x.toNat ^^^ 2 ^ 31 := BitVec.toNat_xor x _
  have hadd : (x + 0x80000000#32).toNat = (x.toNat + 2 ^ 31) % 2 ^ 32 := BitVec.toNat_add x _
  rw [hxor, hadd]
  omega

/-- Settles O10: on the domain the code is exact, and off it the wrapped code has lost 2^32. -/
theorem zigzagDomainRoundTrip : Obligations.ZigzagDomainRoundTrip := by
  refine ⟨fun chk pre cur hd => ?_, fun pre cur hd => ?_, fun pre cur hd => ?_, rfl, rfl⟩
  · obtain ⟨code, henc, hdec, hc⟩ := zzDec_zzEnc_of_inDomain chk hd
    refine ⟨code, henc, hdec, fun h => ?_, fun h => ?_⟩
    · rw [hc, zigzagCode_of_le (by omega)]
    · rw [hc, zigzagCode_of_lt (by omega)]
      omega
  · rw [zzEnc_eq_fit32, fit32_true_eq_error_iff, zigzagCode_inRange_iff]
    exact hd
  · exact ⟨_, zzEnc_false pre cur, by rw [xor_signBit, zzDec_zzEnc_of_offDomain hd]⟩

end Sys2Proof.Machine

namespace Sys2Proof.Machine

/-! PROOF. The delta transform (40_element_datapath.md R74 to R78): inductions over the sequence, with PRE_VAL of the
two pipelines free. -/

theorem zzEnc_self (chk : Bool) (x : Word) : zzEnc chk x x = .ok 0#32 := by
  rw [zzEnc_eq_fit32, zigzagCode_of_le le_rfl, Int.sub_self]
  exact fit32_toNat chk 0#32

theorem inZigzagDomain_self (x : Word) : inZigzagDomain x x := by
  unfold inZigzagDomain
  omega

/-- Settles O11: the first pair is element 0 with itself. -/
theorem firstCodeIsZero : Obligations.FirstCodeIsZero := by
  intro chk x rest C h
  have henc : deltaEncFrom chk x (x :: rest) = .ok C := h
  rw [deltaEncFrom, zzEnc_self, ok_bind, bind_eq_ok] at henc
  obtain ⟨codes, hcodes, hC⟩ := henc
  exact ⟨codes, (Except.ok.inj hC).symm, deltaEncFrom_length hcodes⟩

/-! ### The round trip -/

/-- Entered with the same PRE_VAL, the pipelines round-trip where every pair lies in the zigzag domain. -/
theorem deltaDecFrom_deltaEncFrom (chk : Bool) {pre : Word} {S : List Word} (h : pairsInDomain pre S) :
    ∃ C, deltaEncFrom chk pre S = .ok C ∧ deltaDecFrom chk pre C = .ok S := by
  induction S generalizing pre with
  | nil => exact ⟨[], rfl, rfl⟩
  | cons cur rest ih =>
    obtain ⟨hpair, hrest⟩ := h
    obtain ⟨code, henc, hdec, -⟩ := zzDec_zzEnc_of_inDomain chk hpair
    obtain ⟨codes, hencs, hdecs⟩ := ih hrest
    exact ⟨code :: codes, by simp [deltaEncFrom, henc, hencs], by simp [deltaDecFrom, hdec, hdecs]⟩

/-- Settles O12: both pipelines are entered with the seed. -/
theorem deltaRoundTripWithSeed : Obligations.DeltaRoundTripWithSeed :=
  fun chk _ _ h => deltaDecFrom_deltaEncFrom chk h

/-! ### A wrong Initial Value -/

theorem zigzagValue_add_emod (pre k code : Word) :
    zigzagValue (pre + k) code % 2 ^ 32 = (zigzagValue pre code + k.toNat) % 2 ^ 32 := by
  have hpre : (pre + k).toNat = (pre.toNat + k.toNat) % 2 ^ 32 := BitVec.toNat_add pre k
  obtain h | h := Nat.mod_two_eq_zero_or_one code.toNat
  · rw [zigzagValue_of_even h, zigzagValue_of_even h]
    omega
  · rw [zigzagValue_of_odd h, zigzagValue_of_odd h]
    omega

/-- The wrapping decoder is shift-equivariant (R78). -/
theorem zzDec_false_add {pre k code v : Word} (h : zzDec false pre code = .ok v) :
    zzDec false (pre + k) code = .ok (v + k) := by
  have hv : v.toNat = zigzagValue pre code % 2 ^ 32 := by
    rw [← Except.ok.inj ((zzDec_false pre code).symm.trans h), toNat_ofInt32]
  have hk := zigzagValue_add_emod pre k code
  have hadd : (v + k).toNat = (v.toNat + k.toNat) % 2 ^ 32 := BitVec.toNat_add v k
  rw [zzDec_false, ofInt32_eq_of_emod]
  omega

/-- What one pair adds to the offset of a wrapping round trip (R78 item 2). -/
def pairShift (pre cur : Word) : Word := if inZigzagDomain pre cur then 0#32 else 0x80000000#32

theorem zzDec_zzEnc_false (pre cur : Word) :
    ∃ code, zzEnc false pre cur = .ok code ∧ zzDec false pre code = .ok (cur + pairShift pre cur) := by
  by_cases hd : inZigzagDomain pre cur
  · obtain ⟨code, henc, hdec, -⟩ := zzDec_zzEnc_of_inDomain false hd
    exact ⟨code, henc, by rw [hdec, pairShift, if_pos hd, BitVec.add_zero]⟩
  · exact ⟨_, zzEnc_false pre cur, by rw [zzDec_zzEnc_of_offDomain hd, pairShift, if_neg hd]⟩

/-- Decoding from any `init` the code of `cur` against `pre`. -/
theorem zzDec_zzEnc_shifted (pre init cur : Word) :
    ∃ code, zzEnc false pre cur = .ok code ∧
      zzDec false init code = .ok (cur + (init - pre) + pairShift pre cur) := by
  obtain ⟨code, henc, hdec⟩ := zzDec_zzEnc_false pre cur
  have hshift := zzDec_false_add (k := init - pre) hdec
  have hinit : pre + (init - pre) = init := by ring
  have hval : cur + pairShift pre cur + (init - pre) = cur + (init - pre) + pairShift pre cur := by ring
  rw [hinit, hval] at hshift
  exact ⟨code, henc, hshift⟩

@[simp] theorem offDomainPairs_zero (S : List Word) : offDomainPairs S 0 = 0 := rfl

/-- Off-domain pairs are counted from the first pair on. -/
theorem offDomainPairs_cons_cons (x y : Word) (rest : List Word) (i : Nat) :
    offDomainPairs (x :: y :: rest) (i + 1) =
      (if inZigzagDomain x y then 0 else 1) + offDomainPairs (y :: rest) i := by
  unfold offDomainPairs
  rw [List.range_succ_eq_map, ← List.countP_eq_length_filter, ← List.countP_eq_length_filter, List.countP_cons,
    List.countP_map, Nat.add_comm]
  congr 1
  by_cases hd : inZigzagDomain x y
  · rw [if_pos hd]
    exact if_neg (mt of_decide_eq_true (not_not_intro hd))
  · rw [if_neg hd]
    exact if_pos (decide_eq_true hd)

/-- The shift of the first `i` pairs and of one more before them. -/
theorem ofNat_offDomainPairs_cons_cons (x y : Word) (rest : List Word) (i : Nat) :
    BitVec.ofNat 32 (2 ^ 31 * offDomainPairs (x :: y :: rest) (i + 1)) =
      pairShift x y + BitVec.ofNat 32 (2 ^ 31 * offDomainPairs (y :: rest) i) := by
  rw [offDomainPairs_cons_cons, Nat.mul_add, BitVec.ofNat_add, pairShift]
  split <;> rfl

/-- Coded from `pre` on and decoded from `init` on, wrapping, every element is off by `init - pre` and by the shifts
of the pairs up to it. -/
theorem deltaDecFrom_deltaEncFrom_shifted (pre init : Word) (S : List Word) :
    ∃ C V, deltaEncFrom false pre S = .ok C ∧ deltaDecFrom false init C = .ok V ∧
      ∀ i, i < S.length →
        V.getD i 0#32 =
          S.getD i 0#32 + (init - pre) + BitVec.ofNat 32 (2 ^ 31 * offDomainPairs (pre :: S) (i + 1)) := by
  induction S generalizing pre init with
  | nil => exact ⟨[], [], rfl, rfl, by simp⟩
  | cons cur rest ih =>
    obtain ⟨code, henc, hdec⟩ := zzDec_zzEnc_shifted pre init cur
    obtain ⟨codes, vals, hencs, hdecs, hvals⟩ := ih cur (cur + (init - pre) + pairShift pre cur)
    refine ⟨code :: codes, (cur + (init - pre) + pairShift pre cur) :: vals, by simp [deltaEncFrom, henc, hencs],
      by simp [deltaDecFrom, hdec, hdecs], fun i hi => ?_⟩
    rw [ofNat_offDomainPairs_cons_cons]
    cases i with
    | zero => simp
    | succ i =>
      rw [List.getD_cons_succ, List.getD_cons_succ, hvals i (by simpa using hi)]
      ring

/-- Settles O13: the pipelines are entered with the seed and with `init`, and the pair of the seed with itself adds
nothing. -/
theorem wrongInitialValueShifts : Obligations.WrongInitialValueShifts := by
  refine ⟨fun pre k code v h => zzDec_false_add h, fun S init hS => ?_⟩
  cases S with
  | nil => exact absurd rfl hS
  | cons x rest =>
    obtain ⟨C, V, henc, hdec, hV⟩ := deltaDecFrom_deltaEncFrom_shifted x init (x :: rest)
    have hlen : V.length = (x :: rest).length :=
      (deltaDecFrom_length hdec).trans (deltaEncFrom_length henc)
    refine ⟨C, V, henc, hdec, hlen, fun i hi => ?_⟩
    rw [hV i hi, offDomainPairs_cons_cons, if_pos (inZigzagDomain_self x), Nat.zero_add]
    rfl

end Sys2Proof.Machine

namespace Sys2Proof.Machine

/-! PROOF. The transforms of the transform commands on a whole sequence (40_element_datapath.md R68, R69, R74, R76,
R81): which errors each one raises, where it answers, and what stands at each position of its answer. -/

/-! ### Which errors a transform raises -/

theorem fit32_error {chk : Bool} {v : Int} {c : ErrCode} (h : fit32 chk v = .error c) : c = .range := by
  unfold fit32 at h
  split_ifs at h
  exact (Except.error.inj h).symm

theorem zzEnc_error {chk : Bool} {pre cur : Word} {c : ErrCode} (h : zzEnc chk pre cur = .error c) : c = .range :=
  fit32_error ((zzEnc_eq_fit32 chk pre cur).symm.trans h)

theorem zzDec_error {chk : Bool} {pre code : Word} {c : ErrCode} (h : zzDec chk pre code = .error c) : c = .range :=
  fit32_error ((zzDec_eq_fit32 chk pre code).symm.trans h)

/-- An error of a mapped sequence is the error of one of its elements. -/
theorem mapElements_error {f : Word → Except ErrCode Word} {S : List Word} {c : ErrCode}
    (h : mapElements f S = .error c) : ∃ x ∈ S, f x = .error c := by
  induction S with
  | nil => simp [mapElements] at h
  | cons x xs ih =>
    simp only [mapElements, bind_eq_error, reduceCtorEq, and_false, exists_false, or_false] at h
    obtain hx | ⟨-, -, hxs⟩ := h
    · exact ⟨x, List.mem_cons_self, hx⟩
    · obtain ⟨z, hz, hfz⟩ := ih hxs
      exact ⟨z, List.mem_cons_of_mem x hz, hfz⟩

theorem m1Inverse_error {chk : Bool} {S : List Word} {c : ErrCode} (h : m1Inverse chk S = .error c) : c = .range := by
  obtain ⟨x, -, hx⟩ := mapElements_error h
  exact fit32_error hx

theorem deltaEncFrom_error {chk : Bool} {pre : Word} {S : List Word} {c : ErrCode}
    (h : deltaEncFrom chk pre S = .error c) : c = .range := by
  induction S generalizing pre with
  | nil => simp [deltaEncFrom] at h
  | cons cur rest ih =>
    simp only [deltaEncFrom, bind_eq_error, reduceCtorEq, and_false, exists_false, or_false] at h
    obtain hcur | ⟨-, -, hrest⟩ := h
    · exact zzEnc_error hcur
    · exact ih hrest

theorem deltaDecFrom_error {chk : Bool} {pre : Word} {S : List Word} {c : ErrCode}
    (h : deltaDecFrom chk pre S = .error c) : c = .range := by
  induction S generalizing pre with
  | nil => simp [deltaDecFrom] at h
  | cons code rest ih =>
    simp only [deltaDecFrom, bind_eq_error, reduceCtorEq, and_false, exists_false, or_false] at h
    obtain hcode | ⟨val, -, hrest⟩ := h
    · exact zzDec_error hcode
    · exact ih hrest

/-! ### The inverse offset transform -/

/-- Where every element answers, so does the sequence. -/
theorem mapElements_of_forall_ok {f : Word → Except ErrCode Word} {g : Word → Word} {S : List Word}
    (h : ∀ x ∈ S, f x = .ok (g x)) : mapElements f S = .ok (S.map g) := by
  induction S with
  | nil => rfl
  | cons x xs ih =>
    obtain ⟨hx, hxs⟩ := List.forall_mem_cons.mp h
    simp [mapElements, hx, ih hxs]

/-- Where the sequence answers, so does every element. -/
theorem mapElements_ok_of_mem {f : Word → Except ErrCode Word} {S T : List Word} (h : mapElements f S = .ok T)
    {x : Word} (hx : x ∈ S) : ∃ y, f x = .ok y := by
  induction S generalizing T with
  | nil => simp at hx
  | cons z zs ih =>
    simp only [mapElements, bind_eq_ok] at h
    obtain ⟨y, hy, ys, hys, -⟩ := h
    obtain rfl | hx := List.mem_cons.mp hx
    · exact ⟨y, hy⟩
    · exact ih hys hx

theorem ofsInv_false (y : Word) : ofsInv false y = .ok (y + 1#32) := by
  have hy : (y + 1#32).toNat = (y.toNat + 1) % 2 ^ 32 := BitVec.toNat_add y 1#32
  rw [ofsInv, fit32_false, ofInt32_eq_of_emod]
  omega

/-- `OFS_INV` has its one range event at the last word (R69). -/
theorem ofsInv_of_ne_last (chk : Bool) {y : Word} (hy : y ≠ 0xFFFFFFFF#32) : ofsInv chk y = .ok (y + 1#32) :=
  ofsInv_of_toNat_lt chk (by bv_omega)

theorem m1Inverse_ok {chk : Bool} {S : List Word} (h : chk = false ∨ 0xFFFFFFFF#32 ∉ S) :
    m1Inverse chk S = .ok (S.map (fun x => x + 1#32)) := by
  refine mapElements_of_forall_ok fun x hx => ?_
  obtain rfl | hS := h
  · exact ofsInv_false x
  · exact ofsInv_of_ne_last chk fun hlast => hS (hlast ▸ hx)

theorem m1Inverse_range {S : List Word} (h : 0xFFFFFFFF#32 ∈ S) : m1Inverse true S = .error .range := by
  cases hT : m1Inverse true S with
  | error c => rw [m1Inverse_error hT]
  | ok T =>
    obtain ⟨y, hy⟩ := mapElements_ok_of_mem hT h
    exact absurd hy (by simp [show ofsInv true 0xFFFFFFFF#32 = .error .range by decide])

/-! ### The delta transforms -/

/-- Each code is that of the element at its position against the element before it, PRE_VAL before the first. -/
theorem deltaEncFrom_getD {chk : Bool} {pre : Word} {S C : List Word} (h : deltaEncFrom chk pre S = .ok C) {k : Nat}
    (hk : k < S.length) : zzEnc chk ((pre :: S).getD k 0#32) (S.getD k 0#32) = .ok (C.getD k 0#32) := by
  induction S generalizing pre C k with
  | nil => simp at hk
  | cons cur rest ih =>
    simp only [deltaEncFrom, bind_eq_ok] at h
    obtain ⟨code, hcode, codes, hcodes, hC⟩ := h
    obtain rfl := Except.ok.inj hC
    cases k with
    | zero => exact hcode
    | succ k => exact ih hcodes (by simpa using hk)

/-- Each value is decoded against the value before it, PRE_VAL before the first. -/
theorem deltaDecFrom_getD {chk : Bool} {pre : Word} {C V : List Word} (h : deltaDecFrom chk pre C = .ok V) {k : Nat}
    (hk : k < C.length) : zzDec chk ((pre :: V).getD k 0#32) (C.getD k 0#32) = .ok (V.getD k 0#32) := by
  induction C generalizing pre V k with
  | nil => simp at hk
  | cons code rest ih =>
    simp only [deltaDecFrom, bind_eq_ok] at h
    obtain ⟨val, hval, vals, hvals, hV⟩ := h
    obtain rfl := Except.ok.inj hV
    cases k with
    | zero => exact hval
    | succ k => exact ih hvals (by simpa using hk)

/-- The forward transform answers where no pair has a range event, the seed paired with itself (R74). -/
theorem deltaZzFwd_ok {chk : Bool} {S : List Word} (h : chk = false ∨ pairsInDomain (seedOf S) S) :
    ∃ C, deltaZzFwd chk S = .ok C := by
  obtain rfl | hS := h
  · obtain ⟨C, -, hC, -⟩ := deltaDecFrom_deltaEncFrom_shifted (seedOf S) 0#32 S
    exact ⟨C, hC⟩
  · obtain ⟨C, hC, -⟩ := deltaDecFrom_deltaEncFrom chk hS
    exact ⟨C, hC⟩

/-- An off-domain pair anywhere ends the checked forward transform with a range event (R73, R74). -/
theorem deltaZzFwd_range {S : List Word} {k : Nat} (hk : k + 1 < S.length)
    (hd : ¬ inZigzagDomain (S.getD k 0#32) (S.getD (k + 1) 0#32)) : deltaZzFwd true S = .error .range := by
  cases hC : deltaZzFwd true S with
  | error c => rw [deltaEncFrom_error hC]
  | ok C =>
    have hpair := deltaEncFrom_getD hC hk
    rw [List.getD_cons_succ, zzEnc_eq_fit32, fit32_true_eq_error_iff.mpr (mt (zigzagCode_inRange_iff _ _).mp hd)]
      at hpair
    simp at hpair

/-- Wrapping, the inverse transform always answers (R76). -/
theorem deltaDecFrom_wraps (pre : Word) (C : List Word) : ∃ V, deltaDecFrom false pre C = .ok V := by
  induction C generalizing pre with
  | nil => exact ⟨[], rfl⟩
  | cons code rest ih =>
    obtain ⟨val, hval⟩ := zzDec_wraps pre code
    obtain ⟨vals, hvals⟩ := ih val
    exact ⟨val :: vals, by simp [deltaDecFrom, hval, hvals]⟩

/-- The inverse transform answers where `ZZ_DEC` has no range event (R76). -/
theorem deltaZzInv_ok {chk : Bool} {init : Word} {C : List Word} (h : chk = false ∨ ¬ decodeRangeEvent init C) :
    ∃ V, deltaZzInv chk init C = .ok V := by
  obtain ⟨V, hV⟩ := deltaDecFrom_wraps init C
  refine ⟨V, ?_⟩
  cases chk with
  | false => exact hV
  | true =>
    obtain ⟨hevent, -⟩ | ⟨-, heq⟩ := deltaZzInv_checked init C
    · exact absurd hevent (h.resolve_left (by decide))
    · exact heq.trans hV

theorem deltaZzInv_range {init : Word} {C : List Word} (h : decodeRangeEvent init C) :
    deltaZzInv true init C = .error .range := by
  obtain ⟨-, herr⟩ | ⟨hno, -⟩ := deltaZzInv_checked init C
  · exact herr
  · exact absurd h hno

end Sys2Proof.Machine

namespace Sys2Proof.Machine

/-! PROOF. The 12 transform commands (41_transform_commands.md R84 to R97): one shared body with the transform of the
family and the direction, so each statement is what its transform does of the source. -/

/-! ### The source -/

@[simp] theorem State.xfSource_length (s : State) : s.xfSource.length = s.len.toNat :=
  s.smSeq_length _ _

theorem State.xfSource_getD (s : State) {k : Nat} (hk : k < s.len.toNat) :
    s.xfSource.getD k 0#32 = s.smRead (s.srcPtr.toNat + k) :=
  s.smSeq_getD _ _ k hk

theorem seedOf_eq_getD (S : List Word) : seedOf S = S.getD 0 0#32 := by
  cases S <;> rfl

theorem State.seedOf_xfSource {s : State} (h : 1 ≤ s.len.toNat) : seedOf s.xfSource = s.smRead s.srcPtr.toNat := by
  rw [seedOf_eq_getD, s.xfSource_getD h, Nat.add_zero]

/-- PRE_VAL of the forward transform at element `k` is element `k - 1`, and element 0 at the first (R74). -/
theorem seedOf_cons_getD (S : List Word) (k : Nat) : (seedOf S :: S).getD k 0#32 = S.getD (k - 1) 0#32 := by
  cases k with
  | zero => exact seedOf_eq_getD S
  | succ k => rfl

/-- XF_CHECKS fail on LEN, on the source region or on the destination region (R84). -/
theorem not_xfOk_iff {self : Bool} {s : State} :
    ¬ XfOk self s ↔
      ¬ (1 ≤ s.len.toNat ∧ s.len.toNat ≤ s.params.bl) ∨ s.srcPtr.toNat + s.len.toNat > s.params.smWords ∨
        (if self then s.srcPtr.toNat else s.dstPtr.toNat) + s.len.toNat > s.params.smWords := by
  unfold XfOk State.xfDst
  omega

/-! ### How a command ends -/

/-- A command whose body raises an error completes with it, and the set-up and both memories keep (R131). -/
theorem exec_of_error {i : Instr} {s : State} {c : ErrCode} (h : commandBody s i = .error c) :
    ∃ t, exec i s = .next t ∧ Completed t c ∧ SameSetup s t ∧ SmUnchanged s t ∧ BmUnchanged s t :=
  ⟨s.completeErr c, by rw [exec_eq_finish, h, finish_error], s.completeErr_completed c,
    (SameSetup.refl s).completeErr c, fun _ => rfl, fun _ => rfl⟩

theorem smHolds_smWrite (s : State) (p : Nat) (xs : List Word) : SmHolds s (s.smWrite p xs) p xs := by
  refine ⟨fun k hk => ?_, fun i hi => s.smRead_smWrite_outside le_rfl hi⟩
  rw [State.smRead_smWrite, if_pos (by omega), Nat.add_sub_cancel_left]

section Transform

variable {i : Instr} {self : Bool} {s : State} {F : List Word → Except ErrCode (List Word)}
  {seed : List Word → Word}

/-- Where the checks pass and the transform answers, the command succeeds with the effect of R85. -/
theorem exec_transform_ok {T : List Word} (hbody : commandBody s i = xfCommand self F seed s) (hok : XfOk self s)
    (hT : F s.xfSource = .ok T) : ∃ t, exec i s = .next t ∧ XfDone self s t T (seed s.xfSource) := by
  have hrun : commandBody s i = .ok ((s.smWrite (s.xfDst self) T).setXfResults s.len (seed s.xfSource)) :=
    hbody.trans (xfCommand_ok.mpr ⟨hok, T, hT, rfl⟩)
  have hexec := exec_eq_finish i s
  rw [hrun, finish_ok] at hexec
  exact ⟨_, hexec, {
    completed := exec_completed hexec
    setup := exec_sameSetup hexec
    sm := smHolds_smWrite s (s.xfDst self) T
    bm := fun _ => rfl
    result := rfl
    seedReg := rfl
    resolvedBw := rfl
    nRecovered := rfl }⟩

/-- Where the checks pass and the transform raises an error, the command ends with it. -/
theorem exec_transform_error {c : ErrCode} (hbody : commandBody s i = xfCommand self F seed s) (hok : XfOk self s)
    (hc : F s.xfSource = .error c) :
    ∃ t, exec i s = .next t ∧ Completed t c ∧ SameSetup s t ∧ SmUnchanged s t ∧ BmUnchanged s t :=
  exec_of_error (hbody.trans (xfCommand_error.mpr (.inr ⟨hok, hc⟩)))

/-- Past the checks, ERR is 0 or the transform's own error. -/
theorem exec_transform_ends (hbody : commandBody s i = xfCommand self F seed s) (hok : XfOk self s) :
    ∃ t, exec i s = .next t ∧ (t.err = .none ∨ F s.xfSource = .error t.err) := by
  cases hF : F s.xfSource with
  | ok T =>
    obtain ⟨t, hexec, hcompleted, -⟩ := exec_transform_ok hbody hok hF
    exact ⟨t, hexec, .inl hcompleted.err⟩
  | error c =>
    obtain ⟨t, hexec, hcompleted, -⟩ := exec_transform_error hbody hok hF
    exact ⟨t, hexec, .inr (by rw [hcompleted.err])⟩

end Transform

/-! ### The body of each command, by family and direction -/

section Bodies

variable {i : Instr} {self : Bool} (s : State)

/-- What the body of an into form and of its self form is, for a command that is one of the two. -/
theorem commandBody_of_forms {into own : Instr} (body : Bool → Except ErrCode State)
    (hinto : commandBody s into = body false) (hown : commandBody s own = body true)
    (hi : (i, self) ∈ [(into, false), (own, true)]) : commandBody s i = body self := by
  obtain ⟨rfl, rfl⟩ | ⟨rfl, rfl⟩ : (i = into ∧ self = false) ∨ (i = own ∧ self = true) := by simpa using hi
  · exact hinto
  · exact hown

theorem commandBody_xfVan
    (hi : (i, self) ∈ [(Instr.xfVanFwd, false), (.xfVanFwdSelf, true), (.xfVanInv, false), (.xfVanInvSelf, true)]) :
    commandBody s i = xfCommand self vanIdentity noSeed s := by
  cases i with
  | xfVanFwd | xfVanFwdSelf | xfVanInv | xfVanInvSelf =>
    obtain rfl := by simpa using hi
    rfl
  | _ => simp at hi

theorem commandBody_xfM1Fwd (hi : (i, self) ∈ [(Instr.xfM1Fwd, false), (.xfM1FwdSelf, true)]) :
    commandBody s i = xfCommand self m1Forward noSeed s :=
  commandBody_of_forms s (fun self => xfCommand self m1Forward noSeed s) rfl rfl hi

theorem commandBody_xfM1Inv (hi : (i, self) ∈ [(Instr.xfM1Inv, false), (.xfM1InvSelf, true)]) :
    commandBody s i = xfCommand self (m1Inverse s.params.arithCheck) noSeed s :=
  commandBody_of_forms s (fun self => xfCommand self (m1Inverse s.params.arithCheck) noSeed s) rfl rfl hi

theorem commandBody_xfD1zFwd (hi : (i, self) ∈ [(Instr.xfD1zFwd, false), (.xfD1zFwdSelf, true)]) :
    commandBody s i = xfCommand self (deltaZzFwd s.params.arithCheck) seedOf s :=
  commandBody_of_forms s (fun self => xfCommand self (deltaZzFwd s.params.arithCheck) seedOf s) rfl rfl hi

theorem commandBody_xfD1zInv (hi : (i, self) ∈ [(Instr.xfD1zInv, false), (.xfD1zInvSelf, true)]) :
    commandBody s i = xfCommand self (deltaZzInv s.params.arithCheck s.init) noSeed s :=
  commandBody_of_forms s (fun self => xfCommand self (deltaZzInv s.params.arithCheck s.init) noSeed s) rfl rfl hi

/-- Every transform command has the shared body, and no transform raises ERR_LENGTH: only XF_CHECKS do. -/
theorem commandBody_transform
    (hi : (i, self) ∈ [(Instr.xfVanFwd, false), (.xfVanFwdSelf, true), (.xfVanInv, false), (.xfVanInvSelf, true),
      (.xfM1Fwd, false), (.xfM1FwdSelf, true), (.xfM1Inv, false), (.xfM1InvSelf, true),
      (.xfD1zFwd, false), (.xfD1zFwdSelf, true), (.xfD1zInv, false), (.xfD1zInvSelf, true)]) :
    ∃ F seed, commandBody s i = xfCommand self F seed s ∧ ∀ S, F S ≠ .error .length := by
  cases i with
  | xfVanFwd | xfVanFwdSelf | xfVanInv | xfVanInvSelf =>
    exact ⟨_, _, commandBody_xfVan s (by simpa using hi), fun S h => by simp [vanIdentity] at h⟩
  | xfM1Fwd | xfM1FwdSelf =>
    exact ⟨_, _, commandBody_xfM1Fwd s (by simpa using hi), fun S h => by simp [m1Forward_error] at h⟩
  | xfM1Inv | xfM1InvSelf =>
    exact ⟨_, _, commandBody_xfM1Inv s (by simpa using hi), fun S h => nomatch m1Inverse_error h⟩
  | xfD1zFwd | xfD1zFwdSelf =>
    exact ⟨_, _, commandBody_xfD1zFwd s (by simpa using hi), fun S h => nomatch deltaEncFrom_error h⟩
  | xfD1zInv | xfD1zInvSelf =>
    exact ⟨_, _, commandBody_xfD1zInv s (by simpa using hi), fun S h => nomatch deltaDecFrom_error h⟩
  | _ => simp at hi

end Bodies

/-! ### The statements -/

/-- Settles O14: the vanilla transform is the identity. -/
theorem xfVanillaCopiesSource : Obligations.XfVanillaCopiesSource :=
  fun s _ _ hi hok => exec_transform_ok (commandBody_xfVan s hi) hok rfl

/-- Settles O15: the forward offset transform answers on a source without a 0. -/
theorem xfM1ForwardSubtractsOne : Obligations.XfM1ForwardSubtractsOne :=
  fun s _ _ hi hok hz => exec_transform_ok (commandBody_xfM1Fwd s hi) hok (m1Forward_ok.mpr ⟨hz, rfl⟩)

/-- Settles O16: the inverse offset transform answers where no element has its range event. -/
theorem xfM1InverseAddsOne : Obligations.XfM1InverseAddsOne :=
  fun s _ _ hi hok hr => exec_transform_ok (commandBody_xfM1Inv s hi) hok (m1Inverse_ok hr)

/-- Settles O17: the codes are read off the forward pipeline, entered with element 0. -/
theorem xfD1zForwardEncodesDeltas : Obligations.XfD1zForwardEncodesDeltas := by
  intro s i self hi hok hr
  have hseed : seedOf s.xfSource = s.smRead s.srcPtr.toNat := State.seedOf_xfSource hok.1
  rw [← hseed] at hr ⊢
  obtain ⟨C, hC⟩ := deltaZzFwd_ok hr
  obtain ⟨t, hexec, hdone⟩ := exec_transform_ok (commandBody_xfD1zFwd s hi) hok hC
  refine ⟨t, C, hexec, hdone, by rw [deltaEncFrom_length hC, s.xfSource_length], fun k hk => ?_⟩
  have hcode := deltaEncFrom_getD hC (hk.trans_eq s.xfSource_length.symm)
  rwa [seedOf_cons_getD, s.xfSource_getD hk, s.xfSource_getD (by omega)] at hcode

/-- Settles O18: the values are read off the inverse pipeline, entered with INIT. -/
theorem xfD1zInverseDecodesDeltas : Obligations.XfD1zInverseDecodesDeltas := by
  intro s i self hi hok hr
  obtain ⟨V, hV⟩ := deltaZzInv_ok hr
  obtain ⟨t, hexec, hdone⟩ := exec_transform_ok (commandBody_xfD1zInv s hi) hok hV
  refine ⟨t, V, hexec, hdone, by rw [deltaDecFrom_length hV, s.xfSource_length], fun k hk => ?_⟩
  have hval := deltaDecFrom_getD hV (hk.trans_eq s.xfSource_length.symm)
  rw [s.xfSource_getD hk] at hval
  cases k with
  | zero => exact hval
  | succ k => exact hval

/-- Settles O19: XF_CHECKS raise ERR_LENGTH where they fail, and past them no transform does. -/
theorem xfLengthChecks : Obligations.XfLengthChecks := by
  intro s i self hi
  simp only [← not_xfOk_iff]
  obtain ⟨F, seed, hbody, hF⟩ := commandBody_transform s hi
  by_cases hok : XfOk self s
  · obtain ⟨t, hexec, hend⟩ := exec_transform_ends hbody hok
    have hne : t.err ≠ .length := by
      intro herr
      rw [herr] at hend
      exact hend.elim (by decide) (hF _)
    exact ⟨t, hexec, iff_of_false hne (not_not_intro hok), fun herr => absurd herr hne⟩
  · have herr : commandBody s i = .error .length := hbody.trans (xfCommand_error.mpr (.inl ⟨hok, rfl⟩))
    have hexec : exec i s = .next (s.completeErr .length) := by rw [exec_eq_finish, herr, finish_error]
    exact ⟨_, hexec, iff_of_true rfl hok, fun _ =>
      ⟨exec_sameSetup hexec, fun _ => rfl, fun _ => rfl, rfl, rfl, rfl, rfl⟩⟩

/-- Settles O20: the forward offset transform looks for a 0 before any other work. -/
theorem xfM1ForwardRejectsZero : Obligations.XfM1ForwardRejectsZero := by
  intro s i self hi hok ⟨k, hk, hz⟩
  have hmem : 0#32 ∈ s.xfSource := by
    rw [← hz]
    exact List.mem_map_of_mem (List.mem_range.mpr hk)
  exact exec_transform_error (commandBody_xfM1Fwd s hi) hok (m1Forward_error.mpr ⟨hmem, rfl⟩)

/-- Settles O21: each premise is a range event of the transform of its command. -/
theorem xfRangeErrors : Obligations.XfRangeErrors := by
  intro s self hok hchk
  refine ⟨fun i hi hmem => ?_, fun i hi ⟨k, hk, hd⟩ => ?_, fun i hi hevent => ?_⟩
  · refine exec_transform_error (commandBody_xfM1Inv s hi) hok ?_
    rw [hchk, m1Inverse_range hmem]
  · refine exec_transform_error (commandBody_xfD1zFwd s hi) hok ?_
    rw [← s.xfSource_getD (by omega), ← s.xfSource_getD hk] at hd
    rw [hchk, deltaZzFwd_range (by rwa [s.xfSource_length]) hd]
  · refine exec_transform_error (commandBody_xfD1zInv s hi) hok ?_
    rw [hchk, deltaZzInv_range hevent]

end Sys2Proof.Machine

namespace Sys2Proof.Machine

/-! PROOF. The four PACK commands (43_composed_commands.md R110, R112 to R118): one shared body with the sequence that
the transform-selection mux hands to the packer, so each statement is what the mux does for its family. -/

/-! ### The bytes of BM from an index on -/

theorem State.bmSeq_congr {t u : State} {p n : Nat} (h : ∀ k, k < n → u.bmRead (p + k) = t.bmRead (p + k)) :
    u.bmSeq p n = t.bmSeq p n :=
  List.map_congr_left fun k hk => h k (List.mem_range.mp hk)

/-- A shorter sequence of bytes begins a longer one at the same index. -/
theorem State.bmSeq_isPrefix (u : State) (p : Nat) {m n : Nat} (h : m ≤ n) : u.bmSeq p m <+: u.bmSeq p n := by
  obtain ⟨d, rfl⟩ := Nat.exists_eq_add_of_le h
  rw [State.bmSeq, State.bmSeq, List.range_add, List.map_append]
  exact ⟨_, rfl⟩

theorem bmHolds_bmWrite (s : State) (p : Nat) (bs : List Byte) : BmHolds s (s.bmWrite p bs) p bs := by
  refine ⟨fun k hk => ?_, fun j hj => s.bmRead_bmWrite_outside le_rfl hj⟩
  rw [State.bmRead_bmWrite, if_pos (by omega), Nat.add_sub_cancel_left]

theorem BmHolds.bmSeq {s t : State} {p : Nat} {bs : List Byte} (h : BmHolds s t p bs) : t.bmSeq p bs.length = bs := by
  refine List.ext_getElem (t.bmSeq_length p _) fun k _ hk => ?_
  rw [← List.getD_eq_getElem _ 0#8, t.bmSeq_getD p _ k hk, h.1 k hk, List.getD_eq_getElem]

/-! ### The source -/

@[simp] theorem State.packSource_length (s : State) : s.packSource.length = s.params.bl :=
  s.smSeq_length _ _

/-- The seed of a PACK is the word at SRC_PTR (R113). -/
theorem State.seedOf_packSource {s : State} (h : 1 ≤ s.params.bl) : seedOf s.packSource = s.smRead s.srcPtr.toNat := by
  rw [seedOf_eq_getD, State.packSource, s.smSeq_getD _ _ 0 h, Nat.add_zero]

/-! ### When a PACK succeeds -/

/-- The width that RESOLVE_BW answers past the checks (R110, R112). -/
theorem widthIs_iff {p : Params} {fam : Family} {bw w : Nat} {S T : List Word} :
    WidthIs (answerEstimate p.ep (tsmEstimate fam S T)) bw w ↔ bw ≤ 32 ∧ resolveBw p fam bw S T = .ok w := by
  rw [resolveBw_ok, WidthIs]
  split <;> omega

/-- The Compressed Block that the packer makes of `T` at width `w` (R113). -/
def State.packBlock (s : State) (fam : Family) (T : List Word) (w : Nat) : List Byte :=
  answerCompress s.params.ep (tsmCompress fam s.packSource T w)

/-- The checks of a PACK pass and every request of it answers: `T` goes to the packer, at width `w`. -/
structure PackAnswers (fam : Family) (bw : Nat) (s : State) (T : List Word) (w : Nat) : Prop where
  fits : PkFits s.srcPtr s
  forward : tsmForward fam s.params.arithCheck s.packSource = .ok T
  width : WidthIs (answerEstimate s.params.ep (tsmEstimate fam s.packSource T)) bw w
  block : (s.packBlock fam T w).length ≤ s.byteCap.toNat

/-- The state in which the body of a PACK ends. -/
def State.packResult (s : State) (fam : Family) (T : List Word) (w : Nat) : State :=
  (s.bmWrite s.bytePtr.toNat (s.packBlock fam T w)).setPackResults (BitVec.ofNat 32 (s.packBlock fam T w).length)
    (BitVec.ofNat 8 w) (tsmSeed fam s.packSource)

theorem packCommand_ok_iff_packAnswers {fam : Family} {bw : Nat} {s u : State} :
    packCommand fam bw s = .ok u ↔ ∃ T w, PackAnswers fam bw s T w ∧ u = s.packResult fam T w := by
  rw [packCommand_ok]
  constructor
  · rintro ⟨hfits, hbw, T, w, hT, hw, hB, rfl⟩
    exact ⟨T, w, ⟨hfits, hT, widthIs_iff.mpr ⟨hbw, hw⟩, hB⟩, rfl⟩
  · rintro ⟨T, w, ⟨hfits, hT, hwidth, hB⟩, rfl⟩
    obtain ⟨hbw, hw⟩ := widthIs_iff.mp hwidth
    exact ⟨hfits, hbw, T, w, hT, hw, hB, rfl⟩

theorem PackAnswers.width_le {fam : Family} {bw w : Nat} {s : State} {T : List Word} (h : PackAnswers fam bw s T w) :
    w ≤ 32 := by
  obtain ⟨hbw, hw⟩ := widthIs_iff.mp h.width
  exact resolveBw_le hbw hw

/-- The registers are wide enough for the byte count, which is at most BYTE_CAP, and for the width. -/
theorem PackAnswers.packDone {fam : Family} {bw w : Nat} {s : State} {T : List Word} (h : PackAnswers fam bw s T w) :
    PackDone s (s.packResult fam T w).completeOk (s.packBlock fam T w) w (tsmSeed fam s.packSource) where
  completed := ⟨rfl, rfl, rfl, rfl⟩
  setup := by constructor <;> rfl
  sm := fun _ => rfl
  bm := bmHolds_bmWrite s s.bytePtr.toNat (s.packBlock fam T w)
  result := Nat.mod_eq_of_lt (h.block.trans_lt s.byteCap.isLt)
  resolvedBw := Nat.mod_eq_of_lt (by have := h.width_le; omega)
  seedReg := rfl
  nRecovered := rfl

/-! ### How a PACK ends -/

theorem commandBody_pack (s : State) (fam : Family) (bw : Nat) :
    commandBody s (pkCommandOf fam false bw) = packCommand fam bw s := by
  cases fam <;> rfl

theorem PackAnswers.exec {fam : Family} {bw w : Nat} {s : State} {T : List Word} (h : PackAnswers fam bw s T w) :
    ∃ t, exec (pkCommandOf fam false bw) s = .next t ∧
      PackDone s t (s.packBlock fam T w) w (tsmSeed fam s.packSource) :=
  ⟨_, by rw [exec_eq_finish, commandBody_pack, packCommand_ok_iff_packAnswers.mpr ⟨T, w, h, rfl⟩, finish_ok],
    h.packDone⟩

theorem tsmForward_error_ne_none {fam : Family} {chk : Bool} {S : List Word} :
    tsmForward fam chk S ≠ .error .none := by
  intro h
  cases fam with
  | van => simp [tsmForward, vanIdentity] at h
  | m1 => simp [tsmForward, m1Forward_error] at h
  | d1 => simp [tsmForward] at h
  | d1z => exact nomatch deltaEncFrom_error h

/-- No error of a PACK has the code of a success. -/
theorem packCommand_error_ne_none {fam : Family} {bw : Nat} {s : State} : packCommand fam bw s ≠ .error .none := by
  simp [packCommand_error, resolveBw_error, tsmForward_error_ne_none]

/-- The inversion lemma of a PACK: it succeeded, or its body raised the error it reports. -/
theorem exec_pack_cases {fam : Family} {bw : Nat} {s t : State} (h : exec (pkCommandOf fam false bw) s = .next t) :
    (∃ T w, PackAnswers fam bw s T w ∧ PackDone s t (s.packBlock fam T w) w (tsmSeed fam s.packSource)) ∨
    (t.err ≠ .none ∧ packCommand fam bw s = .error t.err) := by
  rw [exec_eq_finish, commandBody_pack] at h
  obtain ⟨u, hu, rfl⟩ | ⟨c, hc, rfl⟩ := finish_cases h
  · obtain ⟨T, w, hpack, rfl⟩ := packCommand_ok_iff_packAnswers.mp hu
    exact .inl ⟨T, w, hpack, hpack.packDone⟩
  · exact .inr ⟨fun hnone => packCommand_error_ne_none (hc.trans (congrArg _ hnone)), hc⟩

/-! ### The statements -/

/-- Settles O22: the vanilla family hands the source itself to the packer. -/
theorem packVanWritesBlock : Obligations.PackVanWritesBlock := by
  rintro s bw w _ hfits hw rfl hB
  exact PackAnswers.exec (fam := .van) ⟨hfits, rfl, hw, hB⟩

/-- Settles O23: the forward offset transform answers on a source without a 0. -/
theorem packM1WritesBlock : Obligations.PackM1WritesBlock := by
  rintro s bw w _ _ hfits hz rfl hw rfl hB
  exact PackAnswers.exec (fam := .m1) ⟨hfits, m1Forward_ok.mpr ⟨hz, rfl⟩, hw, hB⟩

/-- Settles O24: both sorted requests and SEED take element 0, the word at SRC_PTR. -/
theorem packD1WritesBlock : Obligations.PackD1WritesBlock := by
  intro s bw w B hbl hfits hw hB hlen
  rw [← State.seedOf_packSource hbl] at hw hB ⊢
  subst hB
  exact PackAnswers.exec (fam := .d1) ⟨hfits, rfl, hw, hlen⟩

/-- Settles O25: the estimate and the block are of the codes, and SEED takes element 0, the word at SRC_PTR. -/
theorem packD1zWritesBlock : Obligations.PackD1zWritesBlock := by
  rintro s bw w C _ hbl hfits hC hw rfl hlen
  rw [← State.seedOf_packSource hbl]
  exact PackAnswers.exec (fam := .d1z) ⟨hfits, hC, hw, hlen⟩

/-! ### Two packs of one source -/

/-- What the checks and the requests see of the state is the build, the source and BYTE_CAP. -/
theorem PackAnswers.transfer {fam : Family} {bw w : Nat} {s s' : State} {T : List Word} (h : PackAnswers fam bw s T w)
    (hp : s'.params = s.params) (hS : s'.packSource = s.packSource) (hcap : s'.byteCap = s.byteCap)
    (hfits : PkFits s'.srcPtr s') : PackAnswers fam bw s' T w where
  fits := hfits
  forward := by rw [hp, hS, h.forward]
  width := by rw [hp, hS]; exact h.width
  block := by rw [State.packBlock, hp, hS, hcap]; exact h.block

theorem packCommand_error_transfer {fam : Family} {bw : Nat} {s s' : State} {c : ErrCode}
    (h : packCommand fam bw s = .error c) (hp : s'.params = s.params) (hS : s'.packSource = s.packSource)
    (hcap : s'.byteCap = s.byteCap) (hfits : PkFits s.srcPtr s) (hfits' : PkFits s'.srcPtr s') :
    packCommand fam bw s' = .error c := by
  rw [packCommand_error] at h ⊢
  rw [hp, hS, hcap]
  simpa only [hfits, hfits'] using h

/-- Settles O36: the second pack gets the same answers from the packer, or raises the same error. -/
theorem autoDetectPackIsIdempotent : Obligations.AutoDetectPackIsIdempotent := by
  intro fam s s' t t' hp hS hcap hfits hfits' hexec hexec'
  obtain ⟨T, w, hpack, hdone⟩ | ⟨hne, herr⟩ := exec_pack_cases hexec
  · obtain ⟨t₂, hexec₂, hdone'⟩ := (hpack.transfer hp hS hcap hfits').exec
    obtain rfl : t' = t₂ := by simpa [hexec'] using hexec₂
    have hblock : s'.packBlock fam T w = s.packBlock fam T w := by
      rw [State.packBlock, State.packBlock, hp, hS]
    rw [hblock, hS] at hdone'
    refine ⟨by rw [hdone'.completed.err, hdone.completed.err], fun _ => ⟨?_, ?_, ?_, ?_⟩⟩
    · exact BitVec.eq_of_toNat_eq (by rw [hdone'.result, hdone.result])
    · exact BitVec.eq_of_toNat_eq (by rw [hdone'.resolvedBw, hdone.resolvedBw])
    · rw [hdone'.seedReg, hdone.seedReg]
    · rw [hdone'.result, hdone.result, hdone'.bm.bmSeq, hdone.bm.bmSeq]
  · have herr' := packCommand_error_transfer herr hp hS hcap hfits hfits'
    rw [exec_eq_finish, commandBody_pack, herr', finish_error] at hexec'
    obtain rfl : s'.completeErr t.err = t' := by simpa using hexec'
    exact ⟨rfl, fun hnone => absurd hnone hne⟩

end Sys2Proof.Machine

namespace Sys2Proof.Machine

/-! PROOF. The four UNPACK commands (43_composed_commands.md R110, R111, R119 to R124): one shared body with the inverse
that the transform-selection mux applies to the packer's values. -/

/-! ### The inverse of the first elements -/

/-- OUT of a family whose inverse covers UP_COUNT elements (R119, R120). -/
theorem inverseLeading_ok {f : List Word → Except ErrCode (List Word)} {n : Nat} {V X : List Word}
    (h : f (V.take n) = .ok X) : inverseLeading f n V = .ok (X ++ V.drop n) := by
  rw [inverseLeading, h, ok_bind]

theorem tsmInverse_m1_ok {chk : Bool} {bl count bw n : Nat} {init : Word} {V X : List Word}
    (hn : n = count * 8 / bw) (hbl : n ≤ bl) (hX : m1Inverse chk (V.take n) = .ok X) :
    tsmInverse .m1 chk bl init V count bw = .ok (X ++ V.drop n, n) := by
  simp only [tsmInverse, upCount_ok.mpr ⟨hn ▸ hbl, hn⟩, inverseLeading_ok hX, ok_bind]

theorem tsmInverse_d1z_ok {chk : Bool} {bl count bw n : Nat} {init : Word} {V X : List Word}
    (hn : n = count * 8 / bw) (hbl : n ≤ bl) (hX : deltaZzInv chk init (V.take n) = .ok X) :
    tsmInverse .d1z chk bl init V count bw = .ok (X ++ V.drop n, n) := by
  simp only [tsmInverse, upCount_ok.mpr ⟨hn ▸ hbl, hn⟩, inverseLeading_ok hX, ok_bind]

/-! ### How an UNPACK succeeds -/

theorem commandBody_unpack (s : State) (fam : Family) (bw : Nat) :
    commandBody s (pkCommandOf fam true bw) = unpackCommand fam bw s := by
  cases fam <;> rfl

/-- The checks of an UNPACK pass, the packer answers `V` and `count` within the limit, and the inverse answers `out`,
with `n` elements inverted. -/
structure UnpackAnswers (fam : Family) (bw : Nat) (s : State) (V : List Word) (count : Word) (out : List Word)
    (n : Nat) : Prop where
  fits : PkFits s.dstPtr s
  width_pos : 1 ≤ bw
  width_le : bw ≤ 32
  values : answerDecompress s.params.bl s.params.ep (tsmDecompress fam s.init s.unpackRegion bw) = (V, count)
  limit : count.toNat ≤ countLimit s.params.bl s.byteCap.toNat (tsmDecompress fam s.init s.unpackRegion bw)
  inverse : tsmInverse fam s.params.arithCheck s.params.bl s.init V count.toNat bw = .ok (out, n)

section Answers

variable {fam : Family} {bw n : Nat} {s : State} {V out : List Word} {count : Word}

theorem UnpackAnswers.values_length (h : UnpackAnswers fam bw s V count out n) : V.length = s.params.bl := by
  rw [← answerDecompress_length s.params.bl s.params.ep (tsmDecompress fam s.init s.unpackRegion bw), h.values]

theorem UnpackAnswers.out_length (h : UnpackAnswers fam bw s V count out n) : out.length = s.params.bl :=
  (tsmInverse_spec h.inverse).1.trans h.values_length

/-- BL = LEN is a register's value, so N_RECOVERED holds the number of inverted elements exactly (R110, R119). -/
theorem UnpackAnswers.n_lt (h : UnpackAnswers fam bw s V count out n) : n < 2 ^ 32 := by
  have hn : n ≤ s.params.bl := (tsmInverse_spec h.inverse).2
  rw [← h.fits.1] at hn
  exact hn.trans_lt s.len.isLt

theorem UnpackAnswers.exec (h : UnpackAnswers fam bw s V count out n) :
    ∃ t, exec (pkCommandOf fam true bw) s = .next t ∧ UnpackDone s t out count bw n := by
  have hbody : commandBody s (pkCommandOf fam true bw) =
      .ok ((s.smWrite s.dstPtr.toNat out).setUnpackResults count (BitVec.ofNat 8 bw) (BitVec.ofNat 32 n)) := by
    rw [commandBody_unpack, unpackCommand_ok]
    exact ⟨h.fits, h.width_le, Nat.one_le_iff_ne_zero.mp h.width_pos, (V, count), (out, n),
      h.values.symm, h.limit, h.inverse, rfl⟩
  have hexec := exec_eq_finish (pkCommandOf fam true bw) s
  rw [hbody, finish_ok] at hexec
  exact ⟨_, hexec, {
    completed := exec_completed hexec
    setup := exec_sameSetup hexec
    sm := smHolds_smWrite s s.dstPtr.toNat out
    bm := fun _ => rfl
    result := rfl
    resolvedBw := Nat.mod_eq_of_lt (by have := h.width_le; omega)
    nRecovered := Nat.mod_eq_of_lt h.n_lt
    seedReg := rfl }⟩

end Answers

/-! ### The statements -/

/-- Settles O26: the vanilla family applies no inverse. -/
theorem unpackVanWritesValues : Obligations.UnpackVanWritesValues := by
  rintro s bw _ _ hfits hpos hle rfl rfl hcount
  exact UnpackAnswers.exec (fam := .van) ⟨hfits, hpos, hle, rfl, hcount, rfl⟩

/-- Settles O27: the inverse offset transform answers on the first n values. -/
theorem unpackM1WritesValues : Obligations.UnpackM1WritesValues := by
  rintro s bw n _ _ hfits hpos hle rfl rfl hcount hn hbl hr
  exact UnpackAnswers.exec (fam := .m1)
    ⟨hfits, hpos, hle, rfl, hcount, tsmInverse_m1_ok hn hbl (m1Inverse_ok hr)⟩

/-- Settles O28: the sorted request takes INIT, and no inverse is applied. -/
theorem unpackD1WritesValues : Obligations.UnpackD1WritesValues := by
  rintro s bw _ _ hfits hpos hle rfl rfl hcount
  exact UnpackAnswers.exec (fam := .d1) ⟨hfits, hpos, hle, rfl, hcount, rfl⟩

/-- Settles O29: the decoded values are read off the inverse pipeline, entered with INIT, on the first n values. -/
theorem unpackD1zWritesValues : Obligations.UnpackD1zWritesValues := by
  intro s bw n V count hfits hpos hle hV hcount hcap hn hbl hr
  obtain ⟨X, hX⟩ := deltaZzInv_ok hr
  have hlen : (V.take n).length = n := by rw [List.length_take, hV, blockValues_length, min_eq_left hbl]
  have hvalues : answerDecompress s.params.bl s.params.ep (tsmDecompress .d1z s.init s.unpackRegion bw) = (V, count) :=
    (Prod.ext hV hcount).symm
  obtain ⟨t, hexec, hdone⟩ := UnpackAnswers.exec (fam := .d1z)
    ⟨hfits, hpos, hle, hvalues, hcap, tsmInverse_d1z_ok hn hbl hX⟩
  refine ⟨t, X, hexec, hdone, (deltaDecFrom_length hX).trans hlen, fun k hk => ?_⟩
  have hval := deltaDecFrom_getD hX (hk.trans_eq hlen.symm)
  have htake : (V.take n).getD k 0#32 = V.getD k 0#32 := by
    rw [List.getD_eq_getElem?_getD, List.getElem?_take_of_lt hk, List.getD_eq_getElem?_getD]
  rw [htake] at hval
  cases k with
  | zero => exact hval
  | succ k => exact hval

end Sys2Proof.Machine

namespace Sys2Proof.Machine

/-! PROOF. The round-trip law (43_composed_commands.md R125) under the assumptions on the External Packer
(42_packer_interface.md R105 to R109): an UNPACK of the block that a PACK left, at the width it reported, gives the
source back. -/

/-! ### Widths -/

theorem valuesBelow_mono {b c : Nat} {v : List Word} (hbc : b ≤ c) (h : valuesBelow b v) : valuesBelow c v :=
  fun x hx => (h x hx).trans_le (Nat.pow_le_pow_right (by decide) hbc)

theorem diffsBelow_mono {b c : Nat} {pre : Word} {v : List Word} (hbc : b ≤ c) (h : diffsBelow b pre v) :
    diffsBelow c pre v := by
  induction v generalizing pre with
  | nil => trivial
  | cons x xs ih =>
    obtain ⟨hx, hxs⟩ := h
    exact ⟨hx.trans_le (pow_le_pow_right₀ (by decide) hbc), ih hxs⟩

/-- A resolved width is in 1..32, and holds what the estimate holds (BW = 0) or what BW holds (R112). -/
theorem WidthIs.holds {est : Byte} {bw w : Nat} {fits : Nat → Prop} (h : WidthIs est bw w)
    (hmono : ∀ b c, b ≤ c → fits b → fits c) (hest : fits est.toNat) (hbw : bw = 0 ∨ fits bw) :
    1 ≤ w ∧ w ≤ 32 ∧ fits w := by
  unfold WidthIs at h
  split at h
  · obtain ⟨hle, rfl⟩ := h
    exact ⟨le_max_left _ _, max_le (by decide) hle, hmono _ _ (le_max_right _ _) hest⟩
  · next hne =>
    obtain ⟨hle, rfl⟩ := h
    exact ⟨Nat.one_le_iff_ne_zero.mpr hne, hle, hbw.resolve_left hne⟩

/-- UP_COUNT of the block of a legal build is BL: BL × w ÷ 8 bytes hold BL elements of width w (R109, R119). -/
theorem upCount_block {bl w : Nat} (h8 : bl % 8 = 0) (hw : 1 ≤ w) : bl = bl * w / 8 * 8 / w := by
  have hdvd : 8 ∣ bl * w := Dvd.dvd.mul_right (Nat.dvd_of_mod_eq_zero h8) w
  rw [Nat.div_mul_cancel hdvd, Nat.mul_div_cancel bl hw]

/-! ### From the PACK to the UNPACK -/

/-- A PACK that succeeded had every answer, and its effect is that of R113. -/
theorem exec_pack_succeeded {fam : Family} {bw : Nat} {s t : State}
    (h : exec (pkCommandOf fam false bw) s = .next t) (hnone : t.err = .none) :
    ∃ T w, PackAnswers fam bw s T w ∧ PackDone s t (s.packBlock fam T w) w (tsmSeed fam s.packSource) :=
  (exec_pack_cases h).resolve_right fun hfailed => hfailed.1 hnone

/-- The later UNPACK finds the block at the start of its byte region, which may be longer (R101). -/
theorem UnpackAfter.block_isPrefix {s t u : State} {B : List Byte} (hu : UnpackAfter s t u)
    (hbm : BmHolds s t s.bytePtr.toNat B) (hresult : t.result.toNat = B.length) (hcap : B.length ≤ s.byteCap.toNat) :
    B <+: u.unpackRegion := by
  have hblock : u.bmSeq s.bytePtr.toNat B.length = B := by
    rw [← hresult, State.bmSeq_congr hu.bytes, hresult, hbm.bmSeq]
  rw [State.unpackRegion, hu.bytePtr, hu.byteCap]
  nth_rw 1 [← hblock]
  exact u.bmSeq_isPrefix _ hcap

/-- The checks of the later UNPACK pass: its block length and byte region are those of the PACK (R110). -/
theorem UnpackAfter.fits {s t u : State} (hu : UnpackAfter s t u) (h : PkFits s.srcPtr s) : PkFits u.dstPtr u := by
  obtain ⟨hlen, -, hregion⟩ := h
  refine ⟨?_, hu.dst, ?_⟩
  · rw [hu.len, hu.params, hlen]
  · rwa [hu.bytePtr, hu.byteCap, hu.params]

theorem SmHolds.smSeq {s t : State} {p : Nat} {xs : List Word} (h : SmHolds s t p xs) : t.smSeq p xs.length = xs :=
  eq_blockValues rfl h.1

/-- An UNPACK that has every answer writes OUT at its destination. -/
theorem UnpackAnswers.unpacksTo {fam : Family} {bw n : Nat} {u : State} {V out : List Word} {count : Word}
    (h : UnpackAnswers fam bw u V count out n) : UnpacksTo (pkCommandOf fam true bw) u out := by
  obtain ⟨v, hexec, hdone⟩ := h.exec
  exact ⟨v, hexec, hdone.completed.err, by rw [← h.out_length, hdone.sm.smSeq]⟩

section RoundTrip

variable {fam : Family} {bw0 w : Nat} {s t u : State} {T : List Word}

/-- SEED after a PACK that succeeded (R113). -/
theorem exec_pack_seed (h : exec (pkCommandOf fam false bw0) s = .next t) (hnone : t.err = .none) :
    t.seed = tsmSeed fam s.packSource := by
  obtain ⟨T, w, -, hdone⟩ := exec_pack_succeeded h hnone
  exact hdone.seedReg

/-- An UNPACK at the reported width, in the later state, where the packer's answer inverts to the source. -/
theorem PackAnswers.unpacksTo {V : List Word} {count : Word} {n : Nat} (hpack : PackAnswers fam bw0 s T w)
    (hu : UnpackAfter s t u) (hpos : 1 ≤ w)
    (hvalues : answerDecompress s.params.bl s.params.ep (tsmDecompress fam u.init u.unpackRegion w) = (V, count))
    (hlimit : count.toNat ≤ countLimit s.params.bl s.byteCap.toNat (tsmDecompress fam u.init u.unpackRegion w))
    (hinv : tsmInverse fam s.params.arithCheck s.params.bl u.init V count.toNat w = .ok (s.packSource, n)) :
    UnpacksTo (pkCommandOf fam true w) u s.packSource := by
  rw [← hu.params] at hvalues hlimit hinv
  rw [← hu.byteCap] at hlimit
  exact UnpackAnswers.unpacksTo ⟨hu.fits hpack.fits, hpos, hpack.width_le, hvalues, hlimit, hinv⟩

theorem PackAnswers.forward_length (h : PackAnswers fam bw0 s T w) : T.length = s.params.bl := by
  rw [tsmForward_length h.forward, s.packSource_length]

/-- Every family but D1 makes the plain requests, of the transformed sequence (R82, R83). -/
theorem tsmRequests_plain (hfam : fam ≠ .d1) :
    (∀ S T, tsmEstimate fam S T = .plain T) ∧ (∀ S T w, tsmCompress fam S T w = .plain T w) ∧
      ∀ init P w, tsmDecompress fam init P w = .plain P w := by
  cases fam with
  | d1 => exact absurd rfl hfam
  | van | m1 | d1z => exact ⟨fun _ _ => rfl, fun _ _ _ => rfl, fun _ _ _ => rfl⟩

/-- The families with the plain requests, VAN, M1 and D1Z: the packer gives back the sequence it was handed, so the
commands round-trip where the inverse over the whole block undoes the forward transform. -/
theorem roundTrip_plain (hfam : fam ≠ .d1) (hlegal : s.params.legal) (hep : EpMeets s.params.bl s.params.ep)
    (hexec : exec (pkCommandOf fam false bw0) s = .next t) (hnone : t.err = .none) (hu : UnpackAfter s t u)
    (htransform : ∀ T, tsmForward fam s.params.arithCheck s.packSource = .ok T →
      (bw0 = 0 ∨ valuesBelow bw0 T) ∧ ∀ count w, s.params.bl = count * 8 / w →
        ∃ n, tsmInverse fam s.params.arithCheck s.params.bl u.init T count w = .ok (s.packSource, n)) :
    UnpacksTo (pkCommandOf fam true t.resolvedBw.toNat) u s.packSource := by
  obtain ⟨T, w, hpack, hdone⟩ := exec_pack_succeeded hexec hnone
  obtain ⟨hbw, hinv⟩ := htransform T hpack.forward
  obtain ⟨-, -, h8, -, -⟩ := hlegal
  obtain ⟨-, hleast, -⟩ := hep.est T hpack.forward_length
  obtain ⟨hestimate, hcompress, hdecompress⟩ := tsmRequests_plain hfam
  have hwidth : WidthIs (s.params.ep.estimate T) bw0 w := by
    have h := hpack.width
    rwa [hestimate] at h
  have hblock : s.packBlock fam T w = s.params.ep.compress T w := by rw [State.packBlock, hcompress, answerCompress]
  obtain ⟨hpos, hle, hbelow⟩ := hwidth.holds (fits := (valuesBelow · T))
    (fun _ _ => valuesBelow_mono) hleast hbw
  have hbytes := hu.block_isPrefix hdone.bm hdone.result hpack.block
  obtain ⟨hvalues, hcount⟩ := hep.rt w T u.unpackRegion hpos hle hpack.forward_length hbelow (hblock ▸ hbytes)
  obtain ⟨hlen, -⟩ := hep.len w hpos hle
  have hlength := hlen T hpack.forward_length
  obtain ⟨n, hn⟩ := hinv _ w (upCount_block h8 hpos)
  rw [← hlength, ← hcount] at hn
  rw [hdone.resolvedBw]
  refine hpack.unpacksTo hu hpos ?_ ?_ hn
  · rw [hdecompress]
    exact Prod.ext hvalues rfl
  · rw [hdecompress, countLimit, hcount, ← hblock]
    exact hpack.block

/-- The family with the sorted requests, D1: the packer gives the source itself back, from the seed. -/
theorem roundTrip_sorted (hep : EpMeets s.params.bl s.params.ep)
    (hexec : exec (pkCommandOf .d1 false bw0) s = .next t) (hnone : t.err = .none) (hu : UnpackAfter s t u)
    (hinit : u.init = seedOf s.packSource) (hsorted : sortedFrom (seedOf s.packSource) s.packSource)
    (hbw : bw0 = 0 ∨ diffsBelow bw0 (seedOf s.packSource) s.packSource) :
    UnpacksTo (pkCommandOf .d1 true t.resolvedBw.toNat) u s.packSource := by
  obtain ⟨T, w, hpack, hdone⟩ := exec_pack_succeeded hexec hnone
  obtain ⟨-, hleast, -⟩ := hep.estS _ _ s.packSource_length hsorted
  obtain ⟨hpos, hle, hbelow⟩ := WidthIs.holds (fits := (diffsBelow · (seedOf s.packSource) s.packSource)) hpack.width
    (fun _ _ => diffsBelow_mono) hleast hbw
  have hbytes := hu.block_isPrefix hdone.bm hdone.result hpack.block
  obtain ⟨hvalues, hcount⟩ :=
    hep.rtS w _ _ u.unpackRegion hpos hle s.packSource_length hsorted hbelow hbytes
  rw [← hinit] at hvalues hcount
  rw [hdone.resolvedBw]
  exact hpack.unpacksTo hu hpos (Prod.ext hvalues rfl) hcount.le rfl

end RoundTrip

/-! ### The transforms over a whole block -/

/-- Where UP_COUNT is the block length, the inverse covers every value of the packer (R119, R120). -/
theorem tsmInverse_m1_block {chk : Bool} {bl count w : Nat} {init : Word} {V X : List Word} (hlen : V.length = bl)
    (hup : bl = count * 8 / w) (hX : m1Inverse chk V = .ok X) :
    tsmInverse .m1 chk bl init V count w = .ok (X, bl) := by
  rw [tsmInverse_m1_ok (X := X) hup le_rfl (by rwa [List.take_of_length_le hlen.le]),
    List.drop_of_length_le hlen.le, List.append_nil]

theorem tsmInverse_d1z_block {chk : Bool} {bl count w : Nat} {init : Word} {V X : List Word} (hlen : V.length = bl)
    (hup : bl = count * 8 / w) (hX : deltaZzInv chk init V = .ok X) :
    tsmInverse .d1z chk bl init V count w = .ok (X, bl) := by
  rw [tsmInverse_d1z_ok (X := X) hup le_rfl (by rwa [List.take_of_length_le hlen.le]),
    List.drop_of_length_le hlen.le, List.append_nil]

/-- Without a 0 no forward offset is 0xFFFFFFFF, so the inverse offset transform gives the sequence back (R70). -/
theorem m1Inverse_map_ofsFwd (chk : Bool) {S : List Word} (h : 0#32 ∉ S) : m1Inverse chk (S.map ofsFwd) = .ok S := by
  have hne : ∀ x ∈ S, ofsFwd x ≠ 0xFFFFFFFF#32 := by
    intro x hx hlast
    have hx0 : x = 0#32 := by unfold ofsFwd at hlast; bv_omega
    exact h (hx0 ▸ hx)
  have hmem : 0xFFFFFFFF#32 ∉ S.map ofsFwd := by simpa using hne
  have hid : ((fun x => x + 1#32) ∘ ofsFwd) = id := funext fun x => BitVec.sub_add_cancel x 1#32
  rw [m1Inverse_ok (.inr hmem), List.map_map, hid, List.map_id]

theorem valuesBelow_map_ofsFwd {b : Nat} {S : List Word} (hz : 0#32 ∉ S) (h : ∀ x ∈ S, x.toNat - 1 < 2 ^ b) :
    valuesBelow b (S.map ofsFwd) := by
  refine List.forall_mem_map.mpr fun x hx => ?_
  have hpos : 1 ≤ x.toNat := by
    have hne : x ≠ 0#32 := fun h0 => hz (h0 ▸ hx)
    bv_omega
  rw [toNat_ofsFwd hpos]
  exact h x hx

/-! ### The statements -/

/-- Settles O32: the transform is the identity, and UNPACK.VAN inverts nothing. -/
theorem packUnpackRoundTripVan : Obligations.PackUnpackRoundTripVan := by
  intro s t u bw0 hlegal hep hexec hnone hu hbw
  refine roundTrip_plain (fam := .van) (by decide) hlegal hep hexec hnone hu fun T hT => ?_
  obtain rfl := Except.ok.inj hT
  exact ⟨hbw, fun _ _ _ => ⟨0, rfl⟩⟩

/-- Settles O33: the offset transforms round-trip on a source without a 0. -/
theorem packUnpackRoundTripM1 : Obligations.PackUnpackRoundTripM1 := by
  intro s t u bw0 hlegal hep hexec hnone hu hbw
  refine roundTrip_plain (fam := .m1) (by decide) hlegal hep hexec hnone hu fun T hT => ?_
  obtain ⟨hz, rfl⟩ := m1Forward_ok.mp hT
  exact ⟨hbw.imp_right (valuesBelow_map_ofsFwd hz), fun _ _ hup =>
    ⟨_, tsmInverse_m1_block (by simp) hup (m1Inverse_map_ofsFwd _ hz)⟩⟩

/-- Settles O34: INIT is the seed, element 0. -/
theorem packUnpackRoundTripD1 : Obligations.PackUnpackRoundTripD1 :=
  fun _ _ _ _ _ hep hexec hnone hu hinit hsorted hbw =>
    roundTrip_sorted hep hexec hnone hu (hinit.trans (exec_pack_seed (fam := .d1) hexec hnone)) hsorted hbw

/-- Settles O35: the delta transforms round-trip from the seed where every pair lies in the zigzag domain. -/
theorem packUnpackRoundTripD1z : Obligations.PackUnpackRoundTripD1z := by
  intro s t u bw0 hlegal hep hexec hnone hu hinit hdomain hbw
  have hseed : u.init = seedOf s.packSource := hinit.trans (exec_pack_seed (fam := .d1z) hexec hnone)
  refine roundTrip_plain (fam := .d1z) (by decide) hlegal hep hexec hnone hu fun T hT => ?_
  obtain ⟨C, hC, hinv⟩ := deltaDecFrom_deltaEncFrom s.params.arithCheck hdomain
  obtain rfl : T = C := Except.ok.inj (hT.symm.trans hC)
  have hlen : T.length = s.params.bl := (tsmForward_length hT).trans s.packSource_length
  exact ⟨hbw.imp_right fun h => h T hT, fun _ _ hup => ⟨_, tsmInverse_d1z_block hlen hup (by rwa [hseed])⟩⟩

end Sys2Proof.Machine

namespace Sys2Proof.Machine

/-! PROOF. How a command ends (60_exceptions.md R128 to R131, R137): it completes from every state, with the error
that its body raised or with none, and an error leaves nothing but STATUS, PHASE and the unobservable registers
changed; and while a command runs, only the TU's turn and reset touch what it works on. -/

/-! ### How a command ends -/

/-- Settles O37: a success and an error both end with a completion step. -/
theorem everyCommandTerminates : Obligations.EveryCommandTerminates := by
  intro i s
  obtain ⟨t, hexec⟩ := exec_answers i s
  exact ⟨t, t.err, hexec, exec_completed hexec⟩

/-- A command answers a state whose ERR is the error that its body raises, and 0 where it raises none. -/
theorem exec_answers_err (i : Instr) (s : State) : ∃ t, exec i s = .next t ∧
    ((∀ c, commandBody s i ≠ .error c) → t.err = .none) ∧ (∀ c, commandBody s i = .error c → t.err = c) := by
  rw [exec_eq_finish]
  cases commandBody s i with
  | ok u => exact ⟨u.completeOk, finish_ok s u, fun _ => rfl, fun _ h => nomatch h⟩
  | error c => exact ⟨s.completeErr c, finish_error s c, fun hno => absurd rfl (hno c), fun _ h => Except.error.inj h⟩

/-- Where ERR is not 0, the body raised it and the command did COMPLETE_ERR and nothing else (R131). -/
theorem exec_error {i : Instr} {s t : State} (h : exec i s = .next t) (hne : t.err ≠ .none) :
    commandBody s i = .error t.err ∧ t = s.completeErr t.err := by
  rw [exec_eq_finish] at h
  obtain ⟨u, -, rfl⟩ | ⟨c, hc, rfl⟩ := finish_cases h
  · exact absurd rfl hne
  · exact ⟨hc, rfl⟩

/-- Settles O38: COMPLETE_ERR writes no memory, no operand register and no result register, and a running command
has found the result registers 0. -/
theorem errorsArePrecise : Obligations.ErrorsArePrecise := by
  intro i s t h hne
  obtain ⟨-, heq⟩ := exec_error h hne
  refine ⟨exec_completed h, exec_sameSetup h, ?_⟩
  rw [heq]
  refine ⟨s.completeErr_smRead _, s.completeErr_bmRead _, rfl, rfl, rfl, rfl, fun hinv hbusy => ?_⟩
  obtain ⟨-, hzero⟩ := hinv.busyClear hbusy
  exact hzero

/-! ### While a command runs -/

/-- While BUSY = 1 a host access draws a free value and gets a reply at most (10_state.md R29, 20_memory.md R46). -/
theorem hostAccess_of_busy {a : HostAccess} {s t : State} (hb : s.busy = true) (h : hostAccess a s = .next t) :
    ∃ reply drawn, t = { s with reply := reply, freeCount := drawn } := by
  obtain ⟨-, ⟨r, -, rfl⟩ | ⟨r, v, -, rfl⟩ | ⟨i, -, -, rfl⟩ | ⟨i, v, -, -, rfl⟩ | ⟨j, -, -, rfl⟩ |
    ⟨j, v, -, -, rfl⟩⟩ := hostAccess_next h
  · exact ⟨_, s.freeCount, rfl⟩
  · exact ⟨s.reply, s.freeCount, State.writeReg_of_busy hb r v⟩
  · exact ⟨_, _, State.hostSmRead_of_busy hb i⟩
  · exact ⟨s.reply, s.freeCount, State.hostSmWrite_of_busy hb i v⟩
  · exact ⟨_, _, State.hostBmRead_of_busy hb j⟩
  · exact ⟨s.reply, s.freeCount, State.hostBmWrite_of_busy hb j v⟩

/-- Settles O56: a host access keeps BUSY and both memories, and so does the release of reset; asserting reset keeps
the memories. -/
theorem onlyCompletionOrResetEndsACommand : Obligations.OnlyCompletionOrResetEndsACommand := by
  intro s t h hb
  obtain ⟨rest, hnext, -⟩ | ⟨a, rest, -, ha⟩ | ⟨b, rest, hin, rfl⟩ := step_next h
  · exact ⟨fun _ => .inl ⟨rest, hnext⟩, fun hno => absurd ⟨rest, hnext⟩ hno⟩
  · obtain ⟨reply, drawn, rfl⟩ := hostAccess_of_busy (s := s.setInputs rest) hb ha
    exact ⟨fun hidle => absurd hb (Bool.eq_false_iff.mp hidle), fun _ => ⟨fun _ => rfl, fun _ => rfl⟩⟩
  · cases b with
    | false => exact ⟨fun hidle => absurd hb (Bool.eq_false_iff.mp hidle), fun _ => ⟨fun _ => rfl, fun _ => rfl⟩⟩
    | true => exact ⟨fun _ => .inr ⟨rest, hin⟩, fun _ => ⟨fun _ => rfl, fun _ => rfl⟩⟩

end Sys2Proof.Machine

namespace Sys2Proof.Machine

/-! PROOF. Which command raises which error, and in which order (60_exceptions.md R128, R133): where exactly each
transform raises one, then the mux of PACK and UNPACK, then the commands. -/

/-! ### Where a transform raises an error -/

/-- An operation with one error, which it raises exactly where `P` holds. -/
theorem eq_error_range_iff {α : Type} {x : Except ErrCode α} {P : Prop} {c : ErrCode}
    (hrange : ∀ c, x = .error c → c = .range) (hP : P → x = .error .range) (hnot : ¬ P → ∃ a, x = .ok a) :
    x = .error c ↔ P ∧ c = .range := by
  refine ⟨fun hx => ⟨by_contra fun hno => ?_, hrange c hx⟩, fun ⟨h, hc⟩ => hc ▸ hP h⟩
  obtain ⟨a, ha⟩ := hnot hno
  exact nomatch hx.symm.trans ha

theorem m1Inverse_error_iff {chk : Bool} {S : List Word} {c : ErrCode} :
    m1Inverse chk S = .error c ↔ (chk = true ∧ 0xFFFFFFFF#32 ∈ S) ∧ c = .range := by
  refine eq_error_range_iff (fun _ => m1Inverse_error) (fun ⟨hchk, hmem⟩ => ?_) (fun hno => ⟨_, m1Inverse_ok ?_⟩)
  · rw [hchk, m1Inverse_range hmem]
  · rwa [not_and_or, Bool.not_eq_true] at hno

theorem deltaZzInv_error_iff {chk : Bool} {init : Word} {C : List Word} {c : ErrCode} :
    deltaZzInv chk init C = .error c ↔ (chk = true ∧ decodeRangeEvent init C) ∧ c = .range := by
  refine eq_error_range_iff (fun _ => deltaDecFrom_error) (fun ⟨hchk, hevent⟩ => ?_) (fun hno => deltaZzInv_ok ?_)
  · rw [hchk, deltaZzInv_range hevent]
  · rwa [not_and_or, Bool.not_eq_true] at hno

/-- Checked, the forward pipeline answers only where every pair lies in the zigzag domain (R73, R74). -/
theorem pairsInDomain_of_deltaEncFrom_ok {pre : Word} {S C : List Word} (h : deltaEncFrom true pre S = .ok C) :
    pairsInDomain pre S := by
  induction S generalizing pre C with
  | nil => trivial
  | cons cur rest ih =>
    simp only [deltaEncFrom, bind_eq_ok] at h
    obtain ⟨code, hcode, codes, hcodes, -⟩ := h
    refine ⟨by_contra fun hoff => ?_, ih hcodes⟩
    rw [zzEnc_eq_fit32, fit32_true_eq_error_iff.mpr (mt (zigzagCode_inRange_iff _ _).mp hoff)] at hcode
    exact nomatch hcode

theorem deltaZzFwd_error_iff {chk : Bool} {S : List Word} {c : ErrCode} :
    deltaZzFwd chk S = .error c ↔ (chk = true ∧ ¬ pairsInDomain (seedOf S) S) ∧ c = .range := by
  refine eq_error_range_iff (fun _ => deltaEncFrom_error) (fun ⟨hchk, hoff⟩ => ?_) (fun hno => deltaZzFwd_ok ?_)
  · subst hchk
    cases hC : deltaZzFwd true S with
    | ok C => exact absurd (pairsInDomain_of_deltaEncFrom_ok hC) hoff
    | error c => rw [deltaEncFrom_error hC]
  · rwa [not_and_or, Bool.not_eq_true, not_not] at hno

/-! ### The transform-selection mux -/

/-- Before the packer, a PACK.M1 rejects a 0 and a PACK.D1Z an off-domain pair (R82, R116, R118). -/
theorem tsmForward_error_iff {fam : Family} {chk : Bool} {S : List Word} {c : ErrCode} :
    tsmForward fam chk S = .error c ↔
      (fam = .m1 ∧ 0#32 ∈ S ∧ c = .invalidValue) ∨
      (fam = .d1z ∧ (chk = true ∧ ¬ pairsInDomain (seedOf S) S) ∧ c = .range) := by
  cases fam with
  | van => simp [tsmForward, vanIdentity]
  | m1 => simp [tsmForward, m1Forward_error]
  | d1 => simp [tsmForward]
  | d1z => simp [tsmForward, deltaZzFwd_error_iff]

theorem inverseLeading_error_iff {f : List Word → Except ErrCode (List Word)} {n : Nat} {V : List Word}
    {c : ErrCode} : inverseLeading f n V = .error c ↔ f (V.take n) = .error c := by
  simp [inverseLeading, bind_eq_error]

/-- After the packer, only an UNPACK.M1 and an UNPACK.D1Z raise an error: UP_COUNT above BL, and else a range event of
the inverse at one of the first UP_COUNT values (R83, R119, R122, R124). -/
theorem tsmInverse_error_iff {fam : Family} {chk : Bool} {bl count bw : Nat} {init : Word} {V : List Word}
    {c : ErrCode} :
    tsmInverse fam chk bl init V count bw = .error c ↔
      ((fam = .m1 ∨ fam = .d1z) ∧ bl < count * 8 / bw ∧ c = .length) ∨
      (fam = .m1 ∧ count * 8 / bw ≤ bl ∧
        (chk = true ∧ 0xFFFFFFFF#32 ∈ V.take (count * 8 / bw)) ∧ c = .range) ∨
      (fam = .d1z ∧ count * 8 / bw ≤ bl ∧
        (chk = true ∧ decodeRangeEvent init (V.take (count * 8 / bw))) ∧ c = .range) := by
  cases fam with
  | van => simp [tsmInverse]
  | d1 => simp [tsmInverse]
  | m1 =>
    simp [tsmInverse, bind_eq_error, upCount_ok, upCount_error, inverseLeading_error_iff, m1Inverse_error_iff]
  | d1z =>
    simp [tsmInverse, bind_eq_error, upCount_ok, upCount_error, inverseLeading_error_iff, deltaZzInv_error_iff]

/-! ### Which codes a command can raise -/

/-- What R128 asks of command `i` from `s` where it ends with ERR = `c`. -/
def codeCondition (s : State) (i : Instr) : ErrCode → Prop
  | .none | .length => True
  | .illegal => False
  | .width => 32 < i.bw
  | .zeroWidth => i ∈ [Instr.unpackVan 0, .unpackM1 0, .unpackD1 0, .unpackD1z 0]
  | .invalidValue => i ∈ [Instr.xfM1Fwd, .xfM1FwdSelf, .packM1 i.bw]
  | .range => s.params.arithCheck = true ∧
      i ∈ [Instr.xfM1Inv, .xfM1InvSelf, .xfD1zFwd, .xfD1zFwdSelf, .xfD1zInv, .xfD1zInvSelf,
        .packD1z i.bw, .unpackM1 i.bw, .unpackD1z i.bw]
  | .packer => i ∈ [Instr.packVan i.bw, .packM1 i.bw, .packD1 i.bw, .packD1z i.bw,
      .unpackVan i.bw, .unpackM1 i.bw, .unpackD1 i.bw, .unpackD1z i.bw]

theorem codeCondition_of_xfCommand {i : Instr} {self : Bool} {F : List Word → Except ErrCode (List Word)}
    {seed : List Word → Word} {s : State} {c : ErrCode} (h : xfCommand self F seed s = .error c)
    (hF : ∀ S, F S = .error c → codeCondition s i c) : codeCondition s i c := by
  obtain ⟨-, rfl⟩ | ⟨-, hc⟩ := xfCommand_error.mp h
  · trivial
  · exact hF _ hc

theorem codeCondition_of_packCommand {fam : Family} {bw : Nat} {s : State} {c : ErrCode}
    (h : packCommand fam bw s = .error c) : codeCondition s (pkCommandOf fam false bw) c := by
  have hpacker : codeCondition s (pkCommandOf fam false bw) .packer := by
    cases fam <;> simp [codeCondition, pkCommandOf, Instr.bw]
  obtain ⟨-, rfl⟩ | ⟨-, hw, rfl⟩ | ⟨-, -, hT | ⟨T, -, hw | ⟨w, -, -, rfl⟩⟩⟩ := packCommand_error.mp h
  · trivial
  · cases fam <;> exact hw
  · obtain ⟨rfl, -, rfl⟩ | ⟨rfl, ⟨hchk, -⟩, rfl⟩ := tsmForward_error_iff.mp hT
    · simp [codeCondition, pkCommandOf, Instr.bw]
    · simp [codeCondition, pkCommandOf, Instr.bw, hchk]
  · obtain ⟨-, -, rfl⟩ := resolveBw_error.mp hw
    exact hpacker
  · exact hpacker

theorem codeCondition_of_unpackCommand {fam : Family} {bw : Nat} {s : State} {c : ErrCode}
    (h : unpackCommand fam bw s = .error c) : codeCondition s (pkCommandOf fam true bw) c := by
  obtain ⟨-, rfl⟩ | ⟨-, hw, rfl⟩ | ⟨-, rfl, rfl⟩ | ⟨-, -, -, r, -, ⟨-, rfl⟩ | ⟨-, hinv⟩⟩ :=
    unpackCommand_error.mp h
  · trivial
  · cases fam <;> exact hw
  · cases fam <;> simp [codeCondition, pkCommandOf]
  · cases fam <;> simp [codeCondition, pkCommandOf, Instr.bw]
  · obtain ⟨-, -, rfl⟩ | ⟨rfl, -, ⟨hchk, -⟩, rfl⟩ | ⟨rfl, -, ⟨hchk, -⟩, rfl⟩ := tsmInverse_error_iff.mp hinv
    · trivial
    · simp [codeCondition, pkCommandOf, Instr.bw, hchk]
    · simp [codeCondition, pkCommandOf, Instr.bw, hchk]

theorem commandBody_codeCondition {i : Instr} {s : State} {c : ErrCode} (h : commandBody s i = .error c) :
    codeCondition s i c := by
  cases i with
  | xfVanFwd | xfVanFwdSelf | xfVanInv | xfVanInvSelf => exact codeCondition_of_xfCommand h nofun
  | xfM1Fwd | xfM1FwdSelf =>
    refine codeCondition_of_xfCommand h fun S hc => ?_
    obtain ⟨-, rfl⟩ := m1Forward_error.mp hc
    simp [codeCondition]
  | xfM1Inv | xfM1InvSelf =>
    refine codeCondition_of_xfCommand h fun S hc => ?_
    obtain ⟨⟨hchk, -⟩, rfl⟩ := m1Inverse_error_iff.mp hc
    simp [codeCondition, hchk]
  | xfD1zFwd | xfD1zFwdSelf =>
    refine codeCondition_of_xfCommand h fun S hc => ?_
    obtain ⟨⟨hchk, -⟩, rfl⟩ := deltaZzFwd_error_iff.mp hc
    simp [codeCondition, hchk]
  | xfD1zInv | xfD1zInvSelf =>
    refine codeCondition_of_xfCommand h fun S hc => ?_
    obtain ⟨⟨hchk, -⟩, rfl⟩ := deltaZzInv_error_iff.mp hc
    simp [codeCondition, hchk]
  | packVan bw => exact codeCondition_of_packCommand (fam := .van) h
  | packM1 bw => exact codeCondition_of_packCommand (fam := .m1) h
  | packD1 bw => exact codeCondition_of_packCommand (fam := .d1) h
  | packD1z bw => exact codeCondition_of_packCommand (fam := .d1z) h
  | unpackVan bw => exact codeCondition_of_unpackCommand (fam := .van) h
  | unpackM1 bw => exact codeCondition_of_unpackCommand (fam := .m1) h
  | unpackD1 bw => exact codeCondition_of_unpackCommand (fam := .d1) h
  | unpackD1z bw => exact codeCondition_of_unpackCommand (fam := .d1z) h

theorem exec_codeCondition {i : Instr} {s t : State} (h : exec i s = .next t) : codeCondition s i t.err := by
  by_cases hne : t.err = .none
  · rw [hne]
    trivial
  · exact commandBody_codeCondition (exec_error h hne).1

/-- Settles O39: each clause is the condition of its code. -/
theorem errorCodesOnlyWhereListed : Obligations.ErrorCodesOnlyWhereListed := by
  intro i s t h
  have hcond := exec_codeCondition h
  refine ⟨?_, ?_, ?_, ?_, ?_, ?_⟩
  all_goals
    intro hcode
    rw [hcode] at hcond
    exact hcond

/-! ### The order of the checks -/

/-- Past the checks of a PACK, its error is the first of: the transform, the estimate, the block (R133). -/
theorem packCommand_error_past_checks {fam : Family} {bw : Nat} {s : State} {c : ErrCode} (hfits : PkFits s.srcPtr s)
    (hbw : bw ≤ 32) :
    packCommand fam bw s = .error c ↔
      tsmForward fam s.params.arithCheck s.packSource = .error c ∨
      ∃ T, tsmForward fam s.params.arithCheck s.packSource = .ok T ∧
        (resolveBw s.params fam bw s.packSource T = .error c ∨
          ∃ w, resolveBw s.params fam bw s.packSource T = .ok w ∧
            s.byteCap.toNat < (s.packBlock fam T w).length ∧ c = .packer) := by
  simp [packCommand_error, hfits, hbw, State.packBlock]

/-- Settles O30: each clause is the branch of the body in which the error is raised, and the last one its success. -/
theorem packErrorPriority : Obligations.PackErrorPriority := by
  intro fam bw s
  obtain ⟨t, hexec, hnone, herr⟩ := exec_answers_err (pkCommandOf fam false bw) s
  rw [commandBody_pack] at hnone herr
  refine ⟨t, hexec, fun hno => herr _ (packCommand_error.mpr (.inl ⟨hno, rfl⟩)),
    fun hfits hw => herr _ (packCommand_error.mpr (.inr (.inl ⟨hfits, hw, rfl⟩))), fun hfits hbw => ?_⟩
  have hpast := fun c => (herr c).comp (packCommand_error_past_checks hfits hbw).mpr
  refine ⟨fun hfam hz => ?_, fun hfam hchk hoff => ?_, fun T hT => ⟨fun h0 hest => ?_, fun w hw => ⟨fun hlen => ?_,
    fun hlen => ?_⟩⟩⟩
  · exact hpast _ (.inl (tsmForward_error_iff.mpr (.inl ⟨hfam, hz, rfl⟩)))
  · exact hpast _ (.inl (tsmForward_error_iff.mpr (.inr ⟨hfam, ⟨hchk, hoff⟩, rfl⟩)))
  · exact hpast _ (.inr ⟨T, hT, .inl (resolveBw_error.mpr ⟨h0, hest, rfl⟩)⟩)
  · obtain ⟨-, hres⟩ := widthIs_iff.mp hw
    exact hpast _ (.inr ⟨T, hT, .inr ⟨w, hres, hlen, rfl⟩⟩)
  · have hok := packCommand_ok_iff_packAnswers.mpr ⟨T, w, ⟨hfits, hT, hw, hlen⟩, rfl⟩
    exact hnone (by simp [hok])

/-- Past the checks of an UNPACK and the packer's count, its error is the inverse's (R133). -/
theorem unpackCommand_error_past_packer {fam : Family} {bw : Nat} {s : State} {V : List Word} {count : Word}
    {c : ErrCode} (hfits : PkFits s.dstPtr s) (hpos : 1 ≤ bw) (hle : bw ≤ 32)
    (hanswer : (V, count) = answerDecompress s.params.bl s.params.ep (tsmDecompress fam s.init s.unpackRegion bw))
    (hcount : count.toNat ≤ countLimit s.params.bl s.byteCap.toNat (tsmDecompress fam s.init s.unpackRegion bw)) :
    unpackCommand fam bw s = .error c ↔
      tsmInverse fam s.params.arithCheck s.params.bl s.init V count.toNat bw = .error c := by
  have hne : bw ≠ 0 := Nat.one_le_iff_ne_zero.mp hpos
  simp [unpackCommand_error, hfits, hle, hle.not_gt, hne, ← hanswer, hcount, hcount.not_gt]

/-- Settles O31: the checks and the packer's count come before the inverse, and past them the error is the
inverse's. -/
theorem unpackErrorPriority : Obligations.UnpackErrorPriority := by
  rintro fam bw s _ V count rfl hanswer
  obtain ⟨t, hexec, hnone, herr⟩ := exec_answers_err (pkCommandOf fam true bw) s
  rw [commandBody_unpack] at hnone herr
  refine ⟨t, hexec, fun hno => herr _ (unpackCommand_error.mpr (.inl ⟨hno, rfl⟩)),
    fun hfits hw => herr _ (unpackCommand_error.mpr (.inr (.inl ⟨hfits, hw, rfl⟩))),
    fun hfits h0 => herr _ (unpackCommand_error.mpr (.inr (.inr (.inl ⟨hfits, h0, rfl⟩)))),
    fun hfits hpos hle => ⟨fun hover => ?_, fun hcount => ?_⟩⟩
  · exact herr _ (unpackCommand_error.mpr (.inr (.inr (.inr
      ⟨hfits, hle, Nat.one_le_iff_ne_zero.mp hpos, _, hanswer, .inl ⟨hover, rfl⟩⟩))))
  simp only [ne_eq, unpackCommand_error_past_packer hfits hpos hle hanswer hcount, tsmInverse_error_iff] at hnone herr
  refine ⟨fun hfam => hnone fun c => ?_, fun hfam hup => herr _ (.inl ⟨hfam, hup, rfl⟩), fun hfam hup => ?_,
    fun hfam hup => ?_⟩
  · obtain rfl | rfl := hfam <;> simp
  · split_ifs with hevent
    · exact herr _ (.inr (.inl ⟨hfam, hup, hevent, rfl⟩))
    · exact hnone fun c => by simp [hfam, hevent, hup]
  · by_cases hevent : s.params.arithCheck = true ∧ decodeRangeEvent s.init (V.take (count.toNat * 8 / bw))
    · have hrange : t.err = .range := herr _ (.inr (.inr ⟨hfam, hup, hevent, rfl⟩))
      exact ⟨iff_of_true hrange hevent, .inl hrange⟩
    · have hno : t.err = .none := hnone fun c => by simp [hfam, hevent, hup]
      exact ⟨iff_of_false (by simp [hno]) hevent, .inr hno⟩

end Sys2Proof.Machine

namespace Sys2Proof.Machine

/-! PROOF. Reset (70_reset_and_hazards.md R145 to R149): what a change of the reset line leads to, the state that
reset asserted and released leaves, and the invariant at power-on. -/

/-! ### The reset line -/

theorem step_resetLine {s : State} {b : Bool} {rest : List Input} (h : s.inputs = .resetLine b :: rest) :
    step s = .next ((s.setInputs rest).setResetLine b) := by
  rw [step, h]

/-- Every register but PARAM reads 0 once reset is asserted (R146). -/
theorem State.setResetLine_true_readReg (s : State) {r : Reg} (hr : r ≠ .param) :
    (s.setResetLine true).readReg r = 0#32 := by
  cases r with
  | param => exact absurd rfl hr
  | status => simp [State.readReg, State.statusWord, State.setResetLine_true, ErrCode.code]
  | _ => rfl

/-- Settles O51: the step is `resetRegisters`, which touches no memory and not the build that PARAM reports. -/
theorem resetClearsRegisters : Obligations.ResetClearsRegisters := by
  intro s rest h
  exact ⟨_, step_resetLine h, fun _ => State.setResetLine_true_readReg _, rfl, rfl, rfl, rfl, rfl, fun _ => rfl,
    fun _ => rfl⟩

/-! ### Right after reset -/

/-- The state after reset was asserted and released, with `rest` pending. -/
def State.afterReset (s : State) (rest : List Input) : State :=
  ((s.setInputs rest).setResetLine true).setResetLine false

theorem run_reset_release {s : State} {rest : List Input}
    (h : s.inputs = .resetLine true :: .resetLine false :: rest) (k : Nat) :
    Host.Core.run core (k + 2) s = Host.Core.run core k (s.afterReset rest) := by
  have hassert : core.step s = .next ((s.setInputs (.resetLine false :: rest)).setResetLine true) := step_resetLine h
  have hrelease : core.step ((s.setInputs (.resetLine false :: rest)).setResetLine true) =
      .next (s.afterReset rest) :=
    step_resetLine (s := (s.setInputs (.resetLine false :: rest)).setResetLine true) rfl
  rw [core_run_succ (k + 1) hassert, core_run_succ k hrelease]

theorem Completed.readReg_status {t : State} {c : ErrCode} (h : Completed t c) :
    t.readReg .status = 0#20 ++ c.code ++ 2#8 := by
  rw [State.readReg, State.statusWord, h.busy, h.done, h.err]
  cases c <;> rfl

/-- XF_CHECKS fail where LEN = 0 (41_transform_commands.md R84). -/
theorem not_xfOk_of_len_zero {self : Bool} {s : State} (h : s.len = 0#32) : ¬ XfOk self s := by
  rintro ⟨hlen, -⟩
  simp [h] at hlen

theorem exec_xfVanFwd_of_len_zero {s : State} (h : s.len = 0#32) :
    exec .xfVanFwd s = .next (s.completeErr .length) := by
  have herr : commandBody s .xfVanFwd = .error .length := xfCommand_error.mpr (.inl ⟨not_xfOk_of_len_zero h, rfl⟩)
  rw [exec_eq_finish, herr, finish_error]

/-- Settles O52: GO and the turn run XF.VAN.FWD, the command that CMD = 0 holds, on LEN = 0. -/
theorem goRightAfterResetIsLengthError : Obligations.GoRightAfterResetIsLengthError := by
  intro s h
  have hcmd : decode 0#32 = some .xfVanFwd := decodeInvertsEncode .xfVanFwd rfl
  refine ⟨⟨_, run_reset_release h 0, rfl, hcmd, rfl⟩, ?_⟩
  obtain ⟨-, -, -, -, hrun⟩ :=
    goThenTurnRunsTheCommand (s.afterReset [hostGo s.params, .tuTurn]) .xfVanFwd [] rfl rfl rfl hcmd
  rw [exec_xfVanFwd_of_len_zero rfl] at hrun
  exact ⟨_, (run_reset_release h 2).trans hrun, (State.completeErr_completed _ .length).readReg_status,
    fun _ => rfl, fun _ => rfl, rfl, rfl, rfl, rfl⟩

/-! ### Power-on -/

/-- At power-on no command runs or has ended, and no cell of a memory differs from its initial value (R146, R147). -/
theorem Inv.powerOn (p : Params) : Inv (State.powerOn p) where
  phaseRun := by simp [State.powerOn]
  busyNotDone := fun _ => rfl
  busyClear := fun _ => ⟨rfl, rfl, rfl, rfl, rfl⟩
  errClear := fun hc => absurd rfl hc
  resetIdle := fun _ => rfl
  width := Nat.zero_le 32
  recovered := Nat.zero_le p.bl
  scrLength := List.length_replicate
  idxRange := Nat.zero_le p.bl
  smForm := ⟨rfl, rfl⟩
  bmForm := ⟨rfl, rfl⟩

/-- Settles O58: the fixed reset state is the power-on state of the reference build. -/
theorem resetMeetsTheInvariant : Obligations.ResetMeetsTheInvariant :=
  ⟨Inv.powerOn, Inv.powerOn Params.reference⟩

end Sys2Proof.Machine
